-- ==== Sys2Proof/Word.lean ====
section
/-! DEFINITION. The word types of the block: octets, device times and the container registers are read through. -/

namespace Sys2Proof

/-- One octet (rule R62). -/
abbrev Byte := BitVec 8

/-- A device time, 40 bits in units of one DTU (rule R28); all arithmetic on it is modulo `2^40` (rule R11). -/
abbrev Time := BitVec 40

/-- A container as wide as the widest register of rule R21 (160 bits); a narrower register stands in it zero-extended. -/
abbrev Wide := BitVec 160

end Sys2Proof
end

