-- ==== Sys2Proof/Syntax.lean ====
section
/-! DEFINITION. The instructions: one constructor per row of spec/opcode_table.json (13 port operations, 10 commands). -/

namespace Sys2Proof

/-- The `START` field of `TX` and `RX` (rules R87, R88): immediate, the four delayed modes, and the reserved values 5, 6, 7. -/
inductive Start where
  | imm | dlyAbs | dlyRef | dlyRs | dlyTs | rsv5 | rsv6 | rsv7
  deriving DecidableEq, Repr, Inhabited

/-- The `TARGET` field of `SETSTATE` (rule R89); the value 3 is reserved. -/
inductive Target where
  | init | idleRc | idle | rsv3
  deriving DecidableEq, Repr, Inhabited

/-- An instruction. The register-form port operations carry the octets `ID`, `OFF` and `N` of their record as they stand
(rule R81); whether `N` fits the tag is a check of `WellFormed` and of the operation itself (rules R92, R100). -/
inductive Instr where
  /-- `RD8` (rule R101). -/
  | rd8 (id off n : Byte)
  /-- `RD16` (rule R102). -/
  | rd16 (id off n : Byte)
  /-- `RD32` (rule R103). -/
  | rd32 (id off n : Byte)
  /-- `RDBUF` (rule R107). -/
  | rdbuf (id off n : Byte)
  /-- `WR8` (rule R113). -/
  | wr8 (id off n : Byte) (v : BitVec 8)
  /-- `WR16` (rule R114). -/
  | wr16 (id off n : Byte) (v : BitVec 16)
  /-- `WR32` (rule R115). -/
  | wr32 (id off n : Byte) (v : BitVec 32)
  /-- `WRBUF` (rule R116), its data octets in address order. -/
  | wrbuf (id off n : Byte) (data : List Byte)
  /-- `MOD8` (rule R117). -/
  | mod8 (id off n : Byte) (andMask orMask : BitVec 8)
  /-- `MOD16` (rule R118). -/
  | mod16 (id off n : Byte) (andMask orMask : BitVec 16)
  /-- `MOD32` (rule R119). -/
  | mod32 (id off n : Byte) (andMask orMask : BitVec 32)
  /-- `CIRRD.F` (rule R108). -/
  | cirrdF (region : Byte) (offset count : BitVec 16)
  /-- `CIRRD.R` (rule R109). -/
  | cirrdR (region : Byte) (offset count : BitVec 16)
  /-- `TRXOFF` (rule R120). -/
  | trxoff
  /-- `TX START [W4R] [CCA]` (rule R140). -/
  | tx (start : Start) (w4r cca : Bool)
  /-- `RX START [IDLE_ON_DLY_ERR]` (rule R160). -/
  | rx (start : Start) (idleOnDlyErr : Bool)
  /-- `SETSTATE target` (rule R122). -/
  | setstate (target : Target)
  /-- `CALRX [PGF] [ADC]` (rule R226). -/
  | calrx (pgf adc : Bool)
  /-- `XTALCOMP` (rule R238). -/
  | xtalcomp
  /-- `TXPWR idx` (rule R242). -/
  | txpwr (idx : Byte)
  /-- `DBFREE` (rule R181). -/
  | dbfree
  /-- `SLEEP [DEEP]` (rule R127). -/
  | sleep (deep : Bool)
  /-- `SOFTRESET` (rule R133). -/
  | softreset
  deriving DecidableEq, Repr

end Sys2Proof
end

