-- ==== Sys2Proof/Decode.lean ====
section
/-! DEFINITION. The decoder and the encoder of port records (format P, rules R81 to R83) and command words (format C, rules
R85 to R89). The decoder is total: a record that does not decode is rejected by name. -/

namespace Sys2Proof

/-- Why a record does not decode (rule R92). -/
inductive DecodeError where
  /-- The record ends before the octets its header calls for. -/
  | truncated
  /-- `TAG` is not one of the 13 of rule R82. -/
  | reservedTag (tag : Byte)
  deriving DecidableEq, Repr

/-! ### Octets and little-endian values (rules R62, R84) -/

/-- The 16-bit value of two octets, the first least significant. -/
def le16 (b0 b1 : Byte) : BitVec 16 := b1 ++ b0

/-- The 32-bit value of four octets, the first least significant. -/
def le32 (b0 b1 b2 b3 : Byte) : BitVec 32 := b3 ++ b2 ++ b1 ++ b0

/-- The two octets of a 16-bit value, least significant first. -/
def octets16 (v : BitVec 16) : List Byte := [v.extractLsb' 0 8, v.extractLsb' 8 8]

/-- The four octets of a 32-bit value, least significant first. -/
def octets32 (v : BitVec 32) : List Byte :=
  [v.extractLsb' 0 8, v.extractLsb' 8 8, v.extractLsb' 16 8, v.extractLsb' 24 8]

/-- The first `k` octets of a record and what follows them; none if the record is shorter. -/
def takeOctets : Nat → List Byte → Option (List Byte × List Byte)
  | 0, r => some ([], r)
  | _ + 1, [] => none
  | k + 1, b :: r =>
    match takeOctets k r with
    | some (p, q) => some (b :: p, q)
    | none => none

/-! ### Command words (format C) -/

/-- `START` from its three bits (rule R87). -/
def startOfBits (b : BitVec 3) : Start :=
  match b.toNat with
  | 0 => .imm
  | 1 => .dlyAbs
  | 2 => .dlyRef
  | 3 => .dlyRs
  | 4 => .dlyTs
  | 5 => .rsv5
  | 6 => .rsv6
  | _ => .rsv7

/-- The three bits of `START` (rule R87). -/
def startBits : Start → BitVec 3
  | .imm => 0
  | .dlyAbs => 1
  | .dlyRef => 2
  | .dlyRs => 3
  | .dlyTs => 4
  | .rsv5 => 5
  | .rsv6 => 6
  | .rsv7 => 7

/-- `TARGET` from its two bits (rule R89). -/
def targetOfBits (b : BitVec 2) : Target :=
  match b.toNat with
  | 0 => .init
  | 1 => .idleRc
  | 2 => .idle
  | _ => .rsv3

/-- The two bits of `TARGET` (rule R89). -/
def targetBits : Target → BitVec 2
  | .init => 0
  | .idleRc => 1
  | .idle => 2
  | .rsv3 => 3

/-- The opcode of a command word (rule R85: bits 15:12). -/
def opOf (w : BitVec 16) : BitVec 4 := w.extractLsb' 12 4

/-- The opcode of `SOFTRESET` (rule R86). -/
def opSoftreset : BitVec 4 := 0x9

/-- The command a word stands for: a row of rule R86 whose must-be-zero bits are zero. A reserved field value decodes to its row
(the admission test R90 answers it with `CmdErr`); a reserved opcode or a set must-be-zero bit decodes to no command. -/
def decodeCommand (w : BitVec 16) : Option Instr :=
  if w = 0x0000#16 then some .trxoff
  else if w &&& 0xFFE0#16 = 0x1000#16 then
    some (.tx (startOfBits (w.extractLsb' 0 3)) (w.getLsbD 3) (w.getLsbD 4))
  else if w &&& 0xFFF0#16 = 0x2000#16 then some (.rx (startOfBits (w.extractLsb' 0 3)) (w.getLsbD 3))
  else if w &&& 0xFFFC#16 = 0x3000#16 then some (.setstate (targetOfBits (w.extractLsb' 0 2)))
  else if w &&& 0xFFFC#16 = 0x4000#16 then some (.calrx (w.getLsbD 0) (w.getLsbD 1))
  else if w = 0x5000#16 then some .xtalcomp
  else if w &&& 0xFF00#16 = 0x6000#16 then some (.txpwr (w.extractLsb' 0 8))
  else if w = 0x7000#16 then some .dbfree
  else if w &&& 0xFFFE#16 = 0x8000#16 then some (.sleep (w.getLsbD 0))
  else if w = 0x9000#16 then some .softreset
  else none

/-- The word of a command (rules R86 to R89); none for a port operation. -/
def encodeCommand : Instr → Option (BitVec 16)
  | .trxoff => some 0x0000#16
  | .tx start w4r cca =>
    some (0x1000#16 ||| (startBits start).setWidth 16 ||| (if w4r then 0x0008#16 else 0) ||| (if cca then 0x0010#16 else 0))
  | .rx start i => some (0x2000#16 ||| (startBits start).setWidth 16 ||| (if i then 0x0008#16 else 0))
  | .setstate t => some (0x3000#16 ||| (targetBits t).setWidth 16)
  | .calrx pgf adc => some (0x4000#16 ||| (if pgf then 0x0001#16 else 0) ||| (if adc then 0x0002#16 else 0))
  | .xtalcomp => some 0x5000#16
  | .txpwr idx => some (0x6000#16 ||| idx.setWidth 16)
  | .dbfree => some 0x7000#16
  | .sleep deep => some (0x8000#16 ||| (if deep then 0x0001#16 else 0))
  | .softreset => some 0x9000#16
  | .rd8 .. | .rd16 .. | .rd32 .. | .rdbuf .. | .wr8 .. | .wr16 .. | .wr32 .. | .wrbuf .. | .mod8 .. | .mod16 .. | .mod32 ..
  | .cirrdF .. | .cirrdR .. => none

/-! ### Port records (format P) -/

/-- The register id of `CMD` (rule R21). -/
def cmdId : Byte := 0x05

/-- A 16-bit write: a command where it is `WR16 CMD, 0, word` with `word` a command word (rule R85), else the write itself. -/
def wr16OrCommand (id off n : Byte) (v : BitVec 16) : Instr :=
  if id = cmdId ∧ off = 0 ∧ n = 2 then
    match decodeCommand v with
    | some c => c
    | none => .wr16 id off n v
  else .wr16 id off n v

/-- The rest of a register-form record after its header (rule R81), by tag. -/
def decodeBody (tag id off n : Byte) (d : List Byte) : Except DecodeError (Instr × List Byte) :=
  match tag.toNat, d with
  | 0x00, d => .ok (.rd8 id off n, d)
  | 0x01, d => .ok (.rd16 id off n, d)
  | 0x02, d => .ok (.rd32 id off n, d)
  | 0x03, d => .ok (.rdbuf id off n, d)
  | 0x10, v :: d => .ok (.wr8 id off n v, d)
  | 0x11, v0 :: v1 :: d => .ok (wr16OrCommand id off n (le16 v0 v1), d)
  | 0x12, v0 :: v1 :: v2 :: v3 :: d => .ok (.wr32 id off n (le32 v0 v1 v2 v3), d)
  | 0x13, d =>
    match takeOctets n.toNat d with
    | some (data, rest) => .ok (.wrbuf id off n data, rest)
    | none => .error .truncated
  | 0x20, a :: o :: d => .ok (.mod8 id off n a o, d)
  | 0x21, a0 :: a1 :: o0 :: o1 :: d => .ok (.mod16 id off n (le16 a0 a1) (le16 o0 o1), d)
  | 0x22, a0 :: a1 :: a2 :: a3 :: o0 :: o1 :: o2 :: o3 :: d =>
    .ok (.mod32 id off n (le32 a0 a1 a2 a3) (le32 o0 o1 o2 o3), d)
  | _, _ => .error .truncated

/-- Whether a tag is one of the eleven of the register form (rule R82). -/
def isRegisterTag (tag : Byte) : Bool :=
  tag ∈ [0x00, 0x01, 0x02, 0x03, 0x10, 0x11, 0x12, 0x13, 0x20, 0x21, 0x22]

/-- The instruction a record begins with and the octets after it, or why there is none (rules R80 to R83, R92). -/
def decode : List Byte → Except DecodeError (Instr × List Byte)
  | [] => .error .truncated
  | tag :: r =>
    if isRegisterTag tag then
      match r with
      | id :: off :: n :: d => decodeBody tag id off n d
      | _ => .error .truncated
    else if tag = 0x30 then
      match r with
      | region :: o0 :: o1 :: c0 :: c1 :: rest => .ok (.cirrdF region (le16 o0 o1) (le16 c0 c1), rest)
      | _ => .error .truncated
    else if tag = 0x31 then
      match r with
      | region :: o0 :: o1 :: c0 :: c1 :: rest => .ok (.cirrdR region (le16 o0 o1) (le16 c0 c1), rest)
      | _ => .error .truncated
    else .error (.reservedTag tag)

/-- The record of a command: `WR16 CMD, 0, word` (rule R85). -/
def commandRecord (w : BitVec 16) : List Byte := [0x11, cmdId, 0, 2] ++ octets16 w

/-- The record of an instruction (rules R81 to R89). -/
def encode (i : Instr) : List Byte :=
  match i with
  | .rd8 id off n => [0x00, id, off, n]
  | .rd16 id off n => [0x01, id, off, n]
  | .rd32 id off n => [0x02, id, off, n]
  | .rdbuf id off n => [0x03, id, off, n]
  | .wr8 id off n v => [0x10, id, off, n, v]
  | .wr16 id off n v => [0x11, id, off, n] ++ octets16 v
  | .wr32 id off n v => [0x12, id, off, n] ++ octets32 v
  | .wrbuf id off n data => [0x13, id, off, n] ++ data
  | .mod8 id off n a o => [0x20, id, off, n, a, o]
  | .mod16 id off n a o => [0x21, id, off, n] ++ octets16 a ++ octets16 o
  | .mod32 id off n a o => [0x22, id, off, n] ++ octets32 a ++ octets32 o
  | .cirrdF region offset count => [0x30, region] ++ octets16 offset ++ octets16 count
  | .cirrdR region offset count => [0x31, region] ++ octets16 offset ++ octets16 count
  | .trxoff | .tx .. | .rx .. | .setstate .. | .calrx .. | .xtalcomp | .txpwr .. | .dbfree | .sleep .. | .softreset =>
    match encodeCommand i with
    | some w => commandRecord w
    | none => []

/-! ### Words of the opcode table -/

/-- The longest record: a `WRBUF` of 20 octets (rule R81). -/
def maxRecord : Nat := 24

/-- The octets of an opcode-table word: a 16-bit row is a command word, carried by `WR16 CMD` (rule R85); any other is the start
of a port record, octet 0 in bits 7:0, followed by zeros up to the longest record. -/
def tableOctets (nbits w : Nat) : List Byte :=
  if nbits = 16 then commandRecord (BitVec.ofNat 16 w)
  else (List.range maxRecord).map fun k => if 8 * k < nbits then BitVec.ofNat 8 (w >>> (8 * k)) else 0

/-- The record a table word stands for: its octets as far as the decoder reads them. -/
def tableRecord (nbits w : Nat) : List Byte :=
  match decode (tableOctets nbits w) with
  | .ok (_, rest) => (tableOctets nbits w).take ((tableOctets nbits w).length - rest.length)
  | .error _ => tableOctets nbits w

/-- The instruction the decoder reads from an opcode-table word. -/
def decodeTableWord (nbits w : Nat) : Option Instr :=
  match decode (tableOctets nbits w) with
  | .ok (i, _) => some i
  | .error _ => none

end Sys2Proof
end

