-- ==== Sys2Proof/Machine/CirParams.lean ====
section
/-! DEFINITION. The lengths of the CIR regions (rules R7, R50). They stand before the other parameters because the measurement record
of rule R190 is made of arrays of these lengths. -/

namespace Sys2Proof.Config

/-- The bound of `CIR_LEN` (rule R7). -/
def cirLenMax : Nat := 1016

/-- `CIR_LEN[r] - 1` (log entry 8). -/
opaque cirLenPred : Fin 3 → Fin 1016

/-- `CIR_LEN[r]`, between 1 and 1016 (rule R7). -/
def cirLen (r : Fin 3) : Nat := (cirLenPred r).val + 1

end Sys2Proof.Config
end

