-- ==== Sys2Proof/Machine/Types.lean ====
section
/-! DEFINITION. The types the state is made of: the locus of control, the calibration machine, the register groups, the
measurement record, and the steps the outside agents may take. -/

namespace Sys2Proof.Machine

/-- The phases of a transmission (rule R24): delayed start armed, clear-channel window, preamble and SFD, PHR and payload. -/
inductive TxPhase where
  | wait | cca | shr | data
  deriving DecidableEq, Repr, Inhabited

/-- The phases of a reception (rule R24). -/
inductive RxPhase where
  | wait | hunt | sfdWait | data
  deriving DecidableEq, Repr, Inhabited

/-- `OPSTATE` and `PHASE` of `SYS_STATE` (rule R24), the sequencer's locus of control. `PHASE` is non-zero exactly in `TX`
and `RX`, so the two fields are one value here (log entry 17). -/
inductive Locus where
  | init | idleRc | idlePll | tx (p : TxPhase) | rx (p : RxPhase) | sleep | deepSleep
  deriving DecidableEq, Repr, Inhabited

/-- The calibration state machine (rule R48). -/
inductive CalFsm where
  | none
  | pll (loop poll : Nat)
  | pgf (attempt : Nat) (adc : Bool)
  | res (adc : Bool)
  | adc
  deriving DecidableEq, Repr, Inhabited

/-- The 18 AON-saved registers (rule R129): every `RW` register but the two time operands and the always-on pair. -/
structure Saved where
  sysCfg    : BitVec 32
  sysEnable : BitVec 32
  txFctrl   : BitVec 32
  chanCtrl  : BitVec 16
  phyCfg    : BitVec 32
  rxFwto    : BitVec 32
  preToc    : BitVec 16
  sfdToc    : BitVec 16
  rxSniff   : BitVec 16
  ciaAdjust : BitVec 16
  txAntd    : BitVec 16
  rxAntd    : BitVec 16
  xtalTrim  : BitVec 8
  xtalRef   : BitVec 32
  xtalAlpha : BitVec 32
  xtalBeta  : BitVec 32
  pllCc     : BitVec 32
  txPower   : BitVec 32
  deriving DecidableEq, Repr, Inhabited

/-- One buffer set: the receive result registers of rules R39 and R40. -/
structure BufSet where
  rxFinfo   : BitVec 32
  rxRawst   : Time
  stampIp   : Time
  stampSts1 : Time
  stampSts2 : Time
  poaIp     : BitVec 16
  poaSts1   : BitVec 16
  poaSts2   : BitVec 16
  rxTdoa    : BitVec 48
  rxPdoa    : BitVec 16
  stsQual   : BitVec 16
  stsSts    : BitVec 16
  ipDiag    : BitVec 160
  sts1Diag  : BitVec 160
  sts2Diag  : BitVec 160
  dgcDcsn   : BitVec 8
  deriving DecidableEq, Repr, Inhabited

/-- The four bits of `CAL_STATUS` (rule R43); its bits 7:4 are zero. -/
structure CalStatus where
  pllLocked : Bool
  pgfDone   : Bool
  adcDone   : Bool
  cfgUndef  : Bool
  deriving DecidableEq, Repr, Inhabited

/-- The four bits of `DB_STATUS` (rule R38); its bits 7:4 are zero. A buffer set is named by the `Bool` of its number. -/
structure DbStatus where
  hwBuf   : Bool
  hostBuf : Bool
  full0   : Bool
  full1   : Bool
  deriving DecidableEq, Repr, Inhabited

/-- The sequencer's deadlines (rule R47), each none or a device time. -/
structure Deadlines where
  start : Option Time
  cca   : Option Time
  rmark : Option Time
  txend : Option Time
  fwto  : Option Time
  pre   : Option Time
  sfd   : Option Time
  sniff : Option Time
  deriving DecidableEq, Repr, Inhabited

/-- The CIR accumulator memory as (address, octet) pairs (rule R50, log entry 6). -/
abbrev Memory := List (Nat × BitVec 8)

/-- One complex CIR sample: two 24-bit two's complement numbers (rule R50). -/
structure Sample where
  re : BitVec 24
  im : BitVec 24
  deriving DecidableEq, Repr, Inhabited

/-- The measurement record of a good frame (rule R190): every field is unconstrained, and the accumulator contents of region `r` are
an array of `CIR_LEN[r]` samples. -/
structure Meas where
  toaIp    : Time
  toaSts1  : Time
  toaSts2  : Time
  poaIp    : BitVec 14
  poaSts1  : BitVec 14
  poaSts2  : BitVec 14
  cir0     : Vector Sample (Config.cirLen 0)
  cir1     : Vector Sample (Config.cirLen 1)
  cir2     : Vector Sample (Config.cirLen 2)
  diagIp   : BitVec 160
  diagSts1 : BitVec 160
  diagSts2 : BitVec 160
  dgc      : BitVec 3
  stsQual  : BitVec 16
  stsSts   : BitVec 16
  deriving DecidableEq, Repr, Inhabited

/-- How a frame ended (rule R170). -/
inductive FrameKind where
  | good | crcErr | rsErr
  deriving DecidableEq, Repr, Inhabited

/-- The events of agent `Air` (rules R167 to R171). -/
inductive AirEvent where
  | preambleDetect
  | sfdDetect
  | phrResult (ok : Bool)
  | frameEnd (kind : FrameKind) (len : BitVec 10) (rng : Bool) (frame : Meas)
  | syncLoss
  deriving DecidableEq, Repr, Inhabited

/-- What `Env` answers to one `Cal` step: the lock sample and coarse code (rules R222, R223), the outcome of an attempt
(rules R227, R229), the resistor results (rule R228) and the ADC thresholds (rule R229). A step uses the draws its rule names. -/
structure CalDraw where
  lock : Bool
  cc   : BitVec 16
  ok   : Bool
  resi : BitVec 29
  resq : BitVec 29
  thr  : BitVec 32
  deriving DecidableEq, Repr, Inhabited

/-- One step of an outside agent (rules R9, R264): a port operation (its record, and the transport's verdict `crc_ok` of
rule R112), a pin event, a `Tick`, a `Cal` step with its draws, an air event, a temperature sample. -/
inductive Action where
  | port (octets : List Byte) (crcOk : Bool)
  | wakePin
  | wakeCs
  | hardReset
  | tick
  | cal (d : CalDraw)
  | air (e : AirEvent)
  | tempSample (t : BitVec 8)
  deriving DecidableEq, Repr, Inhabited

/-- The PHY configuration the duration parameters depend on (rule R141: `PHY_CFG`, `CHAN_CTRL`, `TX_FCTRL`, `SYS_CFG`). -/
structure PhyConfig where
  phyCfg   : BitVec 32
  chanCtrl : BitVec 16
  txFctrl  : BitVec 32
  sysCfg   : BitVec 32
  deriving DecidableEq, Repr, Inhabited

end Sys2Proof.Machine
end

