-- ==== Sys2Proof/Config.lean ====
section
/-! DEFINITION. The parameters of rule R7 and the free values. A parameter the spec leaves open is an opaque constant: nothing
in Lean can evaluate it, so a statement holds for every choice. Constraints the spec puts on a parameter hold by construction. -/

namespace Sys2Proof.Config

open Sys2Proof.Machine

/-! ### Values the spec states (rule R7, marked source or decision) -/

/-- `MAX_RETRIES_FOR_PLL` (rule R7). -/
def maxRetriesForPll : Nat := 50

/-- `MAX_PLL_CAL_LOOP` (rule R7). -/
def maxPllCalLoop : Nat := 2

/-- `MAX_RETRIES_FOR_PGF` (rule R7). -/
def maxRetriesForPgf : Nat := 3

/-- `VALID_TDOA_LIMIT` (rule R7). -/
def validTdoaLimit : Nat := 100

/-- `CIR_CHUNK` (rule R7); it has no semantic effect. -/
def cirChunk : Nat := 16

/-- `SNIFF_OFF_MAX` (rule R7), the largest value of the 8-bit field `OFF`. -/
def sniffOffMax : Nat := 255

/-- `TEMP_DEFAULT`, degrees Celsius (rule R7). -/
def tempDefault : Int := 25

/-- `PI_Q11` (rule R7). -/
def piQ11 : Int := 6434

/-- `TWO_PI_Q11` (rule R7). -/
def twoPiQ11 : Int := 12868

/-- A product of a receive timeout, of SNIFF or of the CCA window must stay below this (rule R166). -/
def intervalLimit : Nat := 2 ^ 39

/-! ### Open parameters (rule R7; log entry 8) -/

/-- A proposal for the three members of `KNOWN_IDS` that the source does not give. -/
opaque proposedIds : BitVec 32 × BitVec 32 × BitVec 32

/-- Four identities with the proposed ones, in order. -/
def idsWith (p : BitVec 32 × BitVec 32 × BitVec 32) : List (BitVec 32) := [0xDECA0314#32, p.1, p.2.1, p.2.2]

/-- `KNOWN_IDS`: a set of exactly four constants, one of them `0xDECA0314` (rule R7). Every such set is some proposal's; a proposal
that repeats an identity is none, and the constants of spec/93_implementation_defined.md, G1, stand in for it (log entry 8). -/
def knownIds : List (BitVec 32) :=
  if (idsWith proposedIds).Nodup then idsWith proposedIds else idsWith (0xDECA0302#32, 0xDECA0312#32, 0xDECA0304#32)

/-- Which known identity this chip has. -/
opaque chipSel : Fin 4

/-- `CHIP_ID`, a member of `KNOWN_IDS` (rules R7, R22). -/
def chipId : BitVec 32 := knownIds.getD chipSel.val 0xDECA0314#32

/-- `HAS_DUAL_SPI` (rule R7); only the host's dispatch reads it. -/
opaque hasDualSpi : Bool

/-- Three octets from which the trim constants are taken. -/
opaque trimTriple : BitVec 8 × BitVec 8 × BitVec 8

/-- `XTAL_TRIM_MIN`, the least of the triple, so that `MIN <= DEFAULT <= MAX` holds (rule R7 and spec/92_eei_decisions.md). -/
def xtalTrimMin : Nat := min trimTriple.1.toNat (min trimTriple.2.1.toNat trimTriple.2.2.toNat)

/-- `XTAL_TRIM_MAX`, the greatest of the triple. -/
def xtalTrimMax : Nat := max trimTriple.1.toNat (max trimTriple.2.1.toNat trimTriple.2.2.toNat)

/-- `XTAL_TRIM_DEFAULT`, the middle of the triple. -/
def xtalTrimDefault : Nat :=
  max (min trimTriple.1.toNat trimTriple.2.1.toNat) (min (max trimTriple.1.toNat trimTriple.2.1.toNat) trimTriple.2.2.toNat)

/-- `TEMP_UNSET`, a signed 8-bit sentinel (rule R7). -/
opaque tempUnset : BitVec 8

/-- `OTP_PARTID` (rules R7, R46). -/
opaque otpPartid : BitVec 32

/-- `OTP_LOTID` (rules R7, R46). -/
opaque otpLotid : BitVec 32

/-- `OTP_VBAT` (rules R7, R46). -/
opaque otpVbat : BitVec 8

/-- `OTP_VTEMP` (rules R7, R46). -/
opaque otpVtemp : BitVec 8

/-- `OTP_XTRIM` (rules R7, R46); 0 means absent (rule R42). -/
opaque otpXtrim : BitVec 8

/-- `OTP_BIAS` (rules R7, R46). -/
opaque otpBias : BitVec 8

/-- `OTP_LDOTUNE` (rules R7, R46). -/
opaque otpLdotune : BitVec 32

/-- `OTP_DGC` (rules R7, R46). -/
opaque otpDgc : BitVec 8

/-- `SHR_DTU(cfg)` (rules R7, R148); below `2^39` (spec/92_eei_decisions.md: every armed interval; log entry 10). -/
opaque shrDtu : PhyConfig → BitVec 39

/-- `DATA_DTU(cfg, len)` (rules R7, R148); below `2^39` (log entry 10). -/
opaque dataDtu : PhyConfig → BitVec 10 → BitVec 39

/-- `PAC_DTU(cfg) - 1`. -/
opaque pacDtuPred : PhyConfig → Nat

/-- `PAC_DTU(cfg)`, at least 1 (rule R7). -/
def pacDtu (cfg : PhyConfig) : Nat := pacDtuPred cfg + 1

/-- `SYM_DTU(cfg) - 1`. -/
opaque symDtuPred : PhyConfig → Nat

/-- `SYM_DTU(cfg)`, at least 1 (rule R7). -/
def symDtu (cfg : PhyConfig) : Nat := symDtuPred cfg + 1

/-- `FWTO_UNIT_DTU - 1`. -/
opaque fwtoUnitPred : Nat

/-- `FWTO_UNIT_DTU`, at least 1 (rule R7). -/
def fwtoUnit : Nat := fwtoUnitPred + 1

/-- `SNIFF_OFF_UNIT_DTU - 1`. -/
opaque sniffOffUnitPred : Nat

/-- `SNIFF_OFF_UNIT_DTU`, at least 1 (rule R7). -/
def sniffOffUnit : Nat := sniffOffUnitPred + 1

/-- `LP_UNIT_DTU - 1`. -/
opaque lpUnitPred : Nat

/-- `LP_UNIT_DTU`, at least 1 (rule R7). -/
def lpUnit : Nat := lpUnitPred + 1

/-- `RX_CAL_INVALID`: the resistor result that means failure, an open 29-bit parameter (spec/92_eei_decisions.md, Open parameters;
spec/93_implementation_defined.md, G6; log entry 9). -/
opaque rxCalInvalid : BitVec 29

/-- `pdoa_fn(poa_a, poa_b, adj)`, the alternative to the PDOA formula (rule R196, D23, U23), as its distance from -6434, so that it is in
`[-6434, 6433]`; none for the default, the rule's own formula (log entry 22). -/
opaque pdoaFn : Option (BitVec 14 → BitVec 14 → BitVec 14 → Fin 12868)

/-- `xtal_fn(alpha, beta, dT)`, the alternative to the crystal correction (rule R238, D30, U23); none for the default, the rule's
own formula (log entry 22). -/
opaque xtalFn : Option (BitVec 32 → BitVec 32 → Int → Int)

/-- `TXPWR_MAX_IDX(chip, chan)` (rules R7, R242); the channel is the bit `CHAN_CTRL.CHAN`. -/
opaque txpwrMaxIdx : BitVec 32 → Bool → BitVec 8

/-- `TXPWR_LUT(chip, chan, idx)` (rules R7, R242). -/
opaque txpwrLut : BitVec 32 → Bool → BitVec 8 → BitVec 32

/-- `STS_LEN_TABLE[k]` (rule R7); no rule reads it. -/
opaque stsLenTable : Fin 8 → Nat

/-! ### Free values (spec/93_implementation_defined.md, "any value"; log entry 5) -/

/-- An octet nobody fixes, the `k`-th draw: a read of a freed buffer set (U4), an unwritten CIR octet or a dummy octet (U5). -/
opaque freeByte : Nat → BitVec 8

/-- Whether a write with a bad transport CRC takes effect (U6), the `k`-th draw. -/
opaque freeBool : Nat → Bool

/-- The always-on memory's contents before the first sleep (U12), the `k`-th draw. -/
opaque freeSnapshot : Nat → Saved

/-- The next step of some outside agent where the agenda names none (rule R266, U15), the `k`-th draw. -/
opaque freeAction : Nat → Action

end Sys2Proof.Config
end

