-- ==== Sys2Proof/Machine/State.lean ====
section
/-! DEFINITION. The state of the block (INVENTORY.md, State), the reasons a step can stop, and the state after reset. -/

namespace Sys2Proof.Machine

/-- A step that is not enabled: the spec's `stuck` (spec/93_implementation_defined.md). Nothing happens and nothing can be proved
to happen, so every constructor is safe (log entry 3). -/
inductive Fault where
  /-- Raised by a port operation while the block sleeps (rule R111, U11). Safe: the hardware has no step there. -/
  | portClosed
  /-- Raised by a port operation offered while a `Seq` transition is due (rules R100, R265). Safe; `step` never offers one. -/
  | seqDue
  /-- Raised by an air event in a phase that does not admit it (rules R167 to R171, R185). Safe. -/
  | airNotAdmitted
  /-- Raised by a `Cal` step with no calibration running (rule R221). Safe. -/
  | calIdle
  /-- Raised by a `TempSample` while the block sleeps (rule R240). Safe. -/
  | envAsleep
  deriving DecidableEq, Repr

/-- The spec's `refuse` (rules R12, R255): the situation is given no next state. Every constructor but the first is safe, because
a claim can only become unprovable by it (log entry 4). -/
inductive Refusal where
  /-- Raised by `exec` for an instruction that has no meaning yet. Safe. -/
  | notModelled (mnemonic : String)
  /-- Raised by a record whose `TAG` is reserved (rule R92). Safe. -/
  | reservedTag
  /-- Raised by a record that ends too early or goes on after its last octet (rules R81, R83; log entry 13). Safe. -/
  | badRecord
  /-- Raised by an `N` inconsistent with the tag (rule R92). Safe. -/
  | badCount
  /-- Raised by an access to a register id outside the table of rule R21 (rules R61, R92). Safe. -/
  | reservedId
  /-- Raised by an access that is not in bounds (rule R61). Safe. -/
  | outOfBounds
  /-- Raised by a `CIRRD` with a region above 2 (rule R92). Safe. -/
  | reservedRegion
  /-- Raised by a `CIRRD` beyond `CIR_LEN[r]` (rule R108). Safe. -/
  | cirOutOfRange
  /-- Raised by a modify of `SYS_STATUS` or `CMD` (rule R106). Safe. -/
  | modOnSpecial
  /-- Raised by a write or modify of a locked register in `TX`, `RX` or `BUSY` (rules R76, R233). Safe. -/
  | configLocked
  /-- Raised by a command word with a bad transport CRC (rule R112). Safe. -/
  | commandBadCrc
  /-- Raised by any command but `SOFTRESET` while `CFG_UNDEF = 1` (rules R90, R235). Safe. -/
  | cfgUndef
  /-- Raised where a timeout, SNIFF or CCA product reaches `2^39` DTU (rule R166, U8; log entry 10). Safe. -/
  | intervalTooLong
  /-- Raised by a good frame with `PDOA_MODE = 2` (rule R191, U9). Safe. -/
  | pdoaModeReserved
  /-- Raised by every step of a run that is already marked refused (rules R12, R49). Safe. -/
  | runRefused
  deriving DecidableEq, Repr

/-- The whole state: rules R21 to R50, and the model's own last four fields. -/
structure State where
  /-- `SYS_STATE.OPSTATE` and `SYS_STATE.PHASE` (rule R24). -/
  locus : Locus
  /-- The calibration machine (rule R48); `SYS_STATE.BUSY` is read from it. -/
  calfsm : CalFsm
  /-- The AON-saved registers as they stand (rule R129). -/
  saved : Saved
  /-- `AON_CFG` (rule R45). -/
  aonCfg : BitVec 16
  /-- `SLEEP_CNT` (rule R45). -/
  sleepCnt : BitVec 16
  /-- `DX_TIME` (rule R29). -/
  dxTime : Time
  /-- `DREF_TIME` (rule R29). -/
  drefTime : Time
  /-- `SYS_STATUS` (rule R25). -/
  sysStatus : BitVec 32
  /-- `CMD_RESULT` (rule R27). -/
  cmdResult : BitVec 8
  /-- `SYS_TIME`, the device time (rule R28). -/
  sysTime : Time
  /-- `TX_STAMP` (rule R31). -/
  txStamp : Time
  /-- `TX_RAWST` (rule R31). -/
  txRawst : Time
  /-- `DB_STATUS` (rule R38). -/
  db : DbStatus
  /-- Buffer set 0 (rule R41). -/
  buf0 : BufSet
  /-- Buffer set 1 (rule R41). -/
  buf1 : BufSet
  /-- `BUF_STALE[0]` (rule R41). -/
  stale0 : Bool
  /-- `BUF_STALE[1]` (rule R41). -/
  stale1 : Bool
  /-- `TEMP_SENSE` (rule R42). -/
  tempSense : BitVec 16
  /-- `RX_CAL_RESI` (rule R43). -/
  rxCalResi : BitVec 32
  /-- `RX_CAL_RESQ` (rule R43). -/
  rxCalResq : BitVec 32
  /-- `ADC_THRESH` (rule R43). -/
  adcThresh : BitVec 32
  /-- `CAL_STATUS` (rule R43). -/
  cal : CalStatus
  /-- `TXPWR_IDX` (rule R43). -/
  txpwrIdx : BitVec 8
  /-- The sequencer's deadlines (rule R47). -/
  dl : Deadlines
  /-- `sniff_on` (rule R47). -/
  sniffOn : Bool
  /-- `tx_w4r` (rule R47). -/
  txW4r : Bool
  /-- `rx_raw` (rule R47). -/
  rxRaw : Time
  /-- `phr_ok` (rule R47). -/
  phrOk : Bool
  /-- `RX_STAMP_LAST` (rule R49). -/
  rxStampLast : Time
  /-- `aon_snapshot` (rule R49). -/
  aonSnapshot : Saved
  /-- `aon_elapsed` (rule R49). -/
  aonElapsed : Nat
  /-- The mark `refused` (rule R49). -/
  refused : Bool
  /-- The CIR memory (rule R50). -/
  cir : Memory
  /-- MODEL's own: the transport's verdict on the port operation being presented (rule R112; log entry 11). -/
  crcOk : Bool
  /-- MODEL's own: the octets the port returned for the last port operation (log entry 12). -/
  response : List Byte
  /-- MODEL's own: the coming steps of the outside agents (log entry 1). -/
  agenda : List Action
  /-- MODEL's own: the number of free values taken (log entry 5). -/
  draws : Nat
  deriving DecidableEq, Repr

/-- The reset value of `XTAL_TRIM` and `REF_TRIM`: the OTP value, else the default (rules R42, R241). -/
def resetTrim : BitVec 8 :=
  if Config.otpXtrim ≠ 0 then Config.otpXtrim else BitVec.ofNat 8 Config.xtalTrimDefault

/-- The reset values of the AON-saved registers (rules R21, R281). -/
def Saved.reset : Saved :=
  { sysCfg := 0, sysEnable := 0, txFctrl := 0, chanCtrl := 0, phyCfg := 0x00000040, rxFwto := 0, preToc := 0, sfdToc := 0
    rxSniff := 0, ciaAdjust := 0, txAntd := 0, rxAntd := 0, xtalTrim := resetTrim
    xtalRef := 0#8 ++ Config.tempUnset ++ 25#8 ++ resetTrim
    xtalAlpha := 0, xtalBeta := 0, pllCc := 0, txPower := 0 }

/-- The reset value of a buffer set: every result register 0 (rule R281). -/
def BufSet.reset : BufSet :=
  { rxFinfo := 0, rxRawst := 0, stampIp := 0, stampSts1 := 0, stampSts2 := 0, poaIp := 0, poaSts1 := 0, poaSts2 := 0
    rxTdoa := 0, rxPdoa := 0, stsQual := 0, stsSts := 0, ipDiag := 0, sts1Diag := 0, sts2Diag := 0, dgcDcsn := 0 }

/-- All deadlines none (rule R47). -/
def Deadlines.none : Deadlines :=
  { start := .none, cca := .none, rmark := .none, txend := .none, fwto := .none, pre := .none, sfd := .none, sniff := .none }

/-- The machine right after `HardReset` (rules R51, R280, R281). `aonSnapshot` is unspecified there and takes a free value
(log entry 7). -/
def State.reset : State :=
  { locus := .init, calfsm := .none, saved := Saved.reset, aonCfg := 0, sleepCnt := 0, dxTime := 0, drefTime := 0
    sysStatus := 0, cmdResult := 0, sysTime := 0, txStamp := 0, txRawst := 0
    db := { hwBuf := false, hostBuf := false, full0 := false, full1 := false }
    buf0 := BufSet.reset, buf1 := BufSet.reset, stale0 := false, stale1 := false
    tempSense := 0, rxCalResi := 0, rxCalResq := 0, adcThresh := 0
    cal := { pllLocked := false, pgfDone := false, adcDone := false, cfgUndef := false }
    txpwrIdx := 0, dl := Deadlines.none, sniffOn := true, txW4r := false, rxRaw := 0, phrOk := false, rxStampLast := 0
    aonSnapshot := Config.freeSnapshot 0, aonElapsed := 0, refused := false, cir := []
    crcOk := true, response := [], agenda := [], draws := 1 }

/-- What a step answers. -/
abbrev Res := Host.Outcome State Fault Refusal

end Sys2Proof.Machine
end

