-- ==== Sys2Proof/Machine/Operands.lean ====
section
/-! DEFINITION. The registers as operands: their ids, widths, access classes (rule R21), the fields rules read, and the octets of
a register as the port sees them (rules R60 to R68, R84). -/

namespace Sys2Proof.Machine

/-- The registers, in the order of their ids (rule R21). -/
inductive Reg where
  | devId | sysCfg | sysState | sysStatus | sysEnable | cmd | cmdResult | sysTime
  | dxTime | drefTime | txAntd | rxAntd | txStamp | txRawst | txFctrl | chanCtrl
  | phyCfg | rxFwto | preToc | sfdToc | rxSniff | ciaAdjust | dbStatus | rxFinfo
  | rxRawst | rxStampIp | rxStampSts1 | rxStampSts2 | poaIp | poaSts1 | poaSts2 | rxTdoa
  | rxPdoa | stsQual | stsSts | ipDiag | sts1Diag | sts2Diag | dgcDcsn | xtalTrim
  | xtalRef | xtalAlpha | xtalBeta | tempSense | pllCc | rxCalResi | rxCalResq | adcThresh
  | calStatus | txPower | txpwrIdx | aonCfg | sleepCnt | otpPartid | otpLotid | otpVbat
  | otpVtemp | otpXtrim | otpBias | otpLdotune | otpDgc
  deriving DecidableEq, Repr

/-- The access classes of rule R21. -/
inductive Access where
  | ro | rw | w1c | wo
  deriving DecidableEq, Repr

/-- The registers 0x00 to 0x07 (rule R21). -/
def regRow0 : List Reg :=
  [.devId, .sysCfg, .sysState, .sysStatus, .sysEnable, .cmd, .cmdResult, .sysTime]

/-- The registers 0x08 to 0x0F (rule R21). -/
def regRow1 : List Reg :=
  [.dxTime, .drefTime, .txAntd, .rxAntd, .txStamp, .txRawst, .txFctrl, .chanCtrl]

/-- The registers 0x10 to 0x17 (rule R21). -/
def regRow2 : List Reg :=
  [.phyCfg, .rxFwto, .preToc, .sfdToc, .rxSniff, .ciaAdjust, .dbStatus, .rxFinfo]

/-- The registers 0x18 to 0x1F (rule R21). -/
def regRow3 : List Reg :=
  [.rxRawst, .rxStampIp, .rxStampSts1, .rxStampSts2, .poaIp, .poaSts1, .poaSts2, .rxTdoa]

/-- The registers 0x20 to 0x27 (rule R21). -/
def regRow4 : List Reg :=
  [.rxPdoa, .stsQual, .stsSts, .ipDiag, .sts1Diag, .sts2Diag, .dgcDcsn, .xtalTrim]

/-- The registers 0x28 to 0x2F (rule R21). -/
def regRow5 : List Reg :=
  [.xtalRef, .xtalAlpha, .xtalBeta, .tempSense, .pllCc, .rxCalResi, .rxCalResq, .adcThresh]

/-- The registers 0x30 to 0x37 (rule R21). -/
def regRow6 : List Reg :=
  [.calStatus, .txPower, .txpwrIdx, .aonCfg, .sleepCnt, .otpPartid, .otpLotid, .otpVbat]

/-- The registers 0x38 to 0x3C (rule R21). -/
def regRow7 : List Reg :=
  [.otpVtemp, .otpXtrim, .otpBias, .otpLdotune, .otpDgc]

/-- The register of each id from 0x00 to 0x3C (rule R21). -/
def regTable : List Reg :=
  regRow0 ++ regRow1 ++ regRow2 ++ regRow3 ++ regRow4 ++ regRow5 ++ regRow6 ++ regRow7

/-- The register with an id; none for the reserved ids 0x3D to 0xFF (rule R69). -/
def regOfId (id : Byte) : Option Reg := regTable[id.toNat]?

/-- The id of a register (rule R21): its place in the table. -/
def idOfReg (r : Reg) : Byte := BitVec.ofNat 8 (regTable.findIdx (· == r))

/-- The size of a register in octets (rule R21: its bits divided by 8). -/
def regOctets : Reg → Nat
  | .devId | .sysCfg | .sysStatus | .sysEnable | .txFctrl | .phyCfg | .rxFwto | .rxFinfo | .xtalRef | .xtalAlpha | .xtalBeta
  | .pllCc | .rxCalResi | .rxCalResq | .adcThresh | .txPower | .otpPartid | .otpLotid | .otpLdotune => 4
  | .sysState | .cmdResult | .dbStatus | .dgcDcsn | .xtalTrim | .calStatus | .txpwrIdx | .otpVbat | .otpVtemp | .otpXtrim
  | .otpBias | .otpDgc => 1
  | .cmd | .txAntd | .rxAntd | .chanCtrl | .preToc | .sfdToc | .rxSniff | .ciaAdjust | .poaIp | .poaSts1 | .poaSts2 | .rxPdoa
  | .stsQual | .stsSts | .tempSense | .aonCfg | .sleepCnt => 2
  | .sysTime | .dxTime | .drefTime | .txStamp | .txRawst | .rxRawst | .rxStampIp | .rxStampSts1 | .rxStampSts2 => 5
  | .rxTdoa => 6
  | .ipDiag | .sts1Diag | .sts2Diag => 20

/-- The access class of a register (rule R21). -/
def regAccess : Reg → Access
  | .sysStatus => .w1c
  | .cmd => .wo
  | .sysCfg | .sysEnable | .dxTime | .drefTime | .txAntd | .rxAntd | .txFctrl | .chanCtrl | .phyCfg | .rxFwto | .preToc | .sfdToc
  | .rxSniff | .ciaAdjust | .xtalTrim | .xtalRef | .xtalAlpha | .xtalBeta | .pllCc | .txPower | .aonCfg | .sleepCnt => .rw
  | .devId | .sysState | .cmdResult | .sysTime | .txStamp | .txRawst | .dbStatus | .rxFinfo | .rxRawst | .rxStampIp | .rxStampSts1
  | .rxStampSts2 | .poaIp | .poaSts1 | .poaSts2 | .rxTdoa | .rxPdoa | .stsQual | .stsSts | .ipDiag | .sts1Diag | .sts2Diag | .dgcDcsn
  | .tempSense | .rxCalResi | .rxCalResq | .adcThresh | .calStatus | .txpwrIdx | .otpPartid | .otpLotid | .otpVbat | .otpVtemp
  | .otpXtrim | .otpBias | .otpLdotune | .otpDgc => .ro

/-- The buffer-selected registers, marked `buf` in rule R21 (rule R41). -/
def regBuffered : Reg → Bool
  | .rxFinfo | .rxRawst | .rxStampIp | .rxStampSts1 | .rxStampSts2 | .poaIp | .poaSts1 | .poaSts2 | .rxTdoa | .rxPdoa | .stsQual
  | .stsSts | .ipDiag | .sts1Diag | .sts2Diag | .dgcDcsn => true
  | _ => false

/-- The registers of the configuration lock (rule R76). -/
def regLocked : Reg → Bool
  | .sysCfg | .txFctrl | .chanCtrl | .phyCfg | .rxFwto | .preToc | .sfdToc | .rxSniff | .txAntd | .rxAntd | .ciaAdjust | .dxTime
  | .drefTime | .aonCfg | .sleepCnt => true
  | _ => false

/-! ### Fields -/

/-- `SYS_CFG.DB_EN` (rule R23). -/
def dbEnOf (sysCfg : BitVec 32) : Bool := sysCfg.getLsbD 0

/-- `SYS_CFG.DB_AUTO` (rule R23). -/
def dbAutoOf (sysCfg : BitVec 32) : Bool := sysCfg.getLsbD 1

/-- `SYS_CFG.RX_AUTO_REEN` (rule R23). -/
def rxAutoReenOf (sysCfg : BitVec 32) : Bool := sysCfg.getLsbD 2

/-- `SYS_CFG.PDOA_MODE` (rule R23). -/
def pdoaModeOf (sysCfg : BitVec 32) : BitVec 2 := sysCfg.extractLsb' 3 2

/-- `SYS_CFG.STS_MODE` (rule R23). -/
def stsModeOf (sysCfg : BitVec 32) : BitVec 2 := sysCfg.extractLsb' 5 2

/-- `SYS_CFG.SPI_CRC_EN` (rule R23). -/
def spiCrcEnOf (sysCfg : BitVec 32) : Bool := sysCfg.getLsbD 7

/-- `TX_FCTRL.TXFLEN` (rule R32). -/
def txflenOf (txFctrl : BitVec 32) : BitVec 10 := txFctrl.extractLsb' 0 10

/-- `TX_FCTRL.TXBR` (rule R32). -/
def txbrOf (txFctrl : BitVec 32) : Bool := txFctrl.getLsbD 10

/-- `CHAN_CTRL.CHAN` (rule R33): false is channel 5, true channel 9. -/
def chanOf (chanCtrl : BitVec 16) : Bool := chanCtrl.getLsbD 0

/-- `PHY_CFG.PRE_LEN` (rule R34). -/
def preLenOf (phyCfg : BitVec 32) : Nat := (phyCfg.extractLsb' 0 13).toNat

/-- `RX_FWTO[19:0]` (rule R35). -/
def fwtoCountOf (rxFwto : BitVec 32) : Nat := (rxFwto.extractLsb' 0 20).toNat

/-- `RX_SNIFF.ON` (rule R36). -/
def sniffOnOf (rxSniff : BitVec 16) : Nat := (rxSniff.extractLsb' 0 4).toNat

/-- `RX_SNIFF.OFF` (rule R36). -/
def sniffOffOf (rxSniff : BitVec 16) : Nat := (rxSniff.extractLsb' 8 8).toNat

/-- `CIA_ADJUST.PDOA_ADJ` (rule R37). -/
def pdoaAdjOf (ciaAdjust : BitVec 16) : BitVec 14 := ciaAdjust.extractLsb' 0 14

/-- `AON_CFG.SLEEP_EN` (rule R45). -/
def sleepEnOf (aonCfg : BitVec 16) : Bool := aonCfg.getLsbD 0

/-- `AON_CFG.DEEP` (rule R45). -/
def deepOf (aonCfg : BitVec 16) : Bool := aonCfg.getLsbD 1

/-- `AON_CFG.WAKE_PIN` (rule R45). -/
def wakePinOf (aonCfg : BitVec 16) : Bool := aonCfg.getLsbD 2

/-- `AON_CFG.WAKE_CS` (rule R45). -/
def wakeCsOf (aonCfg : BitVec 16) : Bool := aonCfg.getLsbD 3

/-- `AON_CFG.ONW_RESTORE` (rule R45). -/
def onwRestoreOf (aonCfg : BitVec 16) : Bool := aonCfg.getLsbD 4

/-- `AON_CFG.ATX_SLP` (rule R45). -/
def atxSlpOf (aonCfg : BitVec 16) : Bool := aonCfg.getLsbD 5

/-- `AON_CFG.ARX_SLP` (rule R45). -/
def arxSlpOf (aonCfg : BitVec 16) : Bool := aonCfg.getLsbD 6

/-- `AON_CFG.WAKE_CNT` (rule R45). -/
def wakeCntOf (aonCfg : BitVec 16) : Bool := aonCfg.getLsbD 7

/-- `PreambleValid(L)` (rule R34; spec/90_conflicts.md C2). -/
def preambleValid (l : Nat) : Bool := (16 ≤ l && l ≤ 2048 && l % 8 == 0) || l == 4096

/-! ### Views of the state -/

/-- `SYS_STATE.OPSTATE` as a number (rule R24). -/
def opstateCode : Locus → BitVec 4
  | .init => 0
  | .idleRc => 1
  | .idlePll => 2
  | .tx _ => 3
  | .rx _ => 4
  | .sleep => 5
  | .deepSleep => 6

/-- `SYS_STATE.PHASE` as a number (rule R24). -/
def phaseCode : Locus → BitVec 3
  | .tx .wait | .rx .wait => 1
  | .tx .cca => 2
  | .tx .shr | .rx .hunt => 3
  | .rx .sfdWait => 4
  | .tx .data | .rx .data => 5
  | .init | .idleRc | .idlePll | .sleep | .deepSleep => 0

/-- `SYS_STATE.BUSY` (rules R24, R48). -/
def busy (s : State) : Bool := s.calfsm != .none

/-- The register `SYS_STATE` (rule R24). -/
def sysStateByte (s : State) : BitVec 8 := BitVec.ofBool (busy s) ++ phaseCode s.locus ++ opstateCode s.locus

/-- The register `CAL_STATUS` (rule R43). -/
def calStatusByte (c : CalStatus) : BitVec 8 :=
  0#4 ++ BitVec.ofBool c.cfgUndef ++ BitVec.ofBool c.adcDone ++ BitVec.ofBool c.pgfDone ++ BitVec.ofBool c.pllLocked

/-- The register `DB_STATUS` (rule R38). -/
def dbStatusByte (d : DbStatus) : BitVec 8 :=
  0#4 ++ BitVec.ofBool d.full1 ++ BitVec.ofBool d.full0 ++ BitVec.ofBool d.hostBuf ++ BitVec.ofBool d.hwBuf

/-- `OPSTATE` is `SLEEP` or `DEEPSLEEP`. -/
def asleep (s : State) : Bool :=
  match s.locus with
  | .sleep | .deepSleep => true
  | .init | .idleRc | .idlePll | .tx _ | .rx _ => false

/-- `OPSTATE` is `TX` or `RX`. -/
def active (s : State) : Bool :=
  match s.locus with
  | .tx _ | .rx _ => true
  | .init | .idleRc | .idlePll | .sleep | .deepSleep => false

/-- `OPSTATE` is `INIT`, `IDLE_RC` or `IDLE_PLL`. -/
def idling (s : State) : Bool :=
  match s.locus with
  | .init | .idleRc | .idlePll => true
  | .tx _ | .rx _ | .sleep | .deepSleep => false

/-- The PHY configuration as it stands (rule R141). -/
def cfgOf (s : State) : PhyConfig :=
  { phyCfg := s.saved.phyCfg, chanCtrl := s.saved.chanCtrl, txFctrl := s.saved.txFctrl, sysCfg := s.saved.sysCfg }

/-- `FULL[n]` (rule R38). -/
def DbStatus.full (d : DbStatus) (n : Bool) : Bool := if n then d.full1 else d.full0

/-- `buf[n]` (rule R12). -/
def bufAt (s : State) (n : Bool) : BufSet := if n then s.buf1 else s.buf0

/-- `BUF_STALE[n]` (rule R41). -/
def staleAt (s : State) (n : Bool) : Bool := if n then s.stale1 else s.stale0

/-- The content of a register as a host read sees it: a buffer-selected register in the copy `HOST_BUF` (rule R41), `CMD` as 0
(rule R27), the identity and OTP registers from their parameters (rules R22, R46). -/
def regView (s : State) (r : Reg) : Wide :=
  let b := bufAt s s.db.hostBuf
  match r with
  | .devId => Config.chipId.setWidth 160
  | .sysCfg => s.saved.sysCfg.setWidth 160
  | .sysState => (sysStateByte s).setWidth 160
  | .sysStatus => s.sysStatus.setWidth 160
  | .sysEnable => s.saved.sysEnable.setWidth 160
  | .cmd => 0
  | .cmdResult => s.cmdResult.setWidth 160
  | .sysTime => s.sysTime.setWidth 160
  | .dxTime => s.dxTime.setWidth 160
  | .drefTime => s.drefTime.setWidth 160
  | .txAntd => s.saved.txAntd.setWidth 160
  | .rxAntd => s.saved.rxAntd.setWidth 160
  | .txStamp => s.txStamp.setWidth 160
  | .txRawst => s.txRawst.setWidth 160
  | .txFctrl => s.saved.txFctrl.setWidth 160
  | .chanCtrl => s.saved.chanCtrl.setWidth 160
  | .phyCfg => s.saved.phyCfg.setWidth 160
  | .rxFwto => s.saved.rxFwto.setWidth 160
  | .preToc => s.saved.preToc.setWidth 160
  | .sfdToc => s.saved.sfdToc.setWidth 160
  | .rxSniff => s.saved.rxSniff.setWidth 160
  | .ciaAdjust => s.saved.ciaAdjust.setWidth 160
  | .dbStatus => (dbStatusByte s.db).setWidth 160
  | .rxFinfo => b.rxFinfo.setWidth 160
  | .rxRawst => b.rxRawst.setWidth 160
  | .rxStampIp => b.stampIp.setWidth 160
  | .rxStampSts1 => b.stampSts1.setWidth 160
  | .rxStampSts2 => b.stampSts2.setWidth 160
  | .poaIp => b.poaIp.setWidth 160
  | .poaSts1 => b.poaSts1.setWidth 160
  | .poaSts2 => b.poaSts2.setWidth 160
  | .rxTdoa => b.rxTdoa.setWidth 160
  | .rxPdoa => b.rxPdoa.setWidth 160
  | .stsQual => b.stsQual.setWidth 160
  | .stsSts => b.stsSts.setWidth 160
  | .ipDiag => b.ipDiag
  | .sts1Diag => b.sts1Diag
  | .sts2Diag => b.sts2Diag
  | .dgcDcsn => b.dgcDcsn.setWidth 160
  | .xtalTrim => s.saved.xtalTrim.setWidth 160
  | .xtalRef => s.saved.xtalRef.setWidth 160
  | .xtalAlpha => s.saved.xtalAlpha.setWidth 160
  | .xtalBeta => s.saved.xtalBeta.setWidth 160
  | .tempSense => s.tempSense.setWidth 160
  | .pllCc => s.saved.pllCc.setWidth 160
  | .rxCalResi => s.rxCalResi.setWidth 160
  | .rxCalResq => s.rxCalResq.setWidth 160
  | .adcThresh => s.adcThresh.setWidth 160
  | .calStatus => (calStatusByte s.cal).setWidth 160
  | .txPower => s.saved.txPower.setWidth 160
  | .txpwrIdx => s.txpwrIdx.setWidth 160
  | .aonCfg => s.aonCfg.setWidth 160
  | .sleepCnt => s.sleepCnt.setWidth 160
  | .otpPartid => Config.otpPartid.setWidth 160
  | .otpLotid => Config.otpLotid.setWidth 160
  | .otpVbat => Config.otpVbat.setWidth 160
  | .otpVtemp => Config.otpVtemp.setWidth 160
  | .otpXtrim => Config.otpXtrim.setWidth 160
  | .otpBias => Config.otpBias.setWidth 160
  | .otpLdotune => Config.otpLdotune.setWidth 160
  | .otpDgc => Config.otpDgc.setWidth 160

/-- An `RW` register given a new content; a register of another class is left alone (rules R21, R104). -/
def regPut (r : Reg) (w : Wide) (s : State) : State :=
  match r with
  | .sysCfg => { s with saved.sysCfg := w.setWidth 32 }
  | .sysEnable => { s with saved.sysEnable := w.setWidth 32 }
  | .dxTime => { s with dxTime := w.setWidth 40 }
  | .drefTime => { s with drefTime := w.setWidth 40 }
  | .txAntd => { s with saved.txAntd := w.setWidth 16 }
  | .rxAntd => { s with saved.rxAntd := w.setWidth 16 }
  | .txFctrl => { s with saved.txFctrl := w.setWidth 32 }
  | .chanCtrl => { s with saved.chanCtrl := w.setWidth 16 }
  | .phyCfg => { s with saved.phyCfg := w.setWidth 32 }
  | .rxFwto => { s with saved.rxFwto := w.setWidth 32 }
  | .preToc => { s with saved.preToc := w.setWidth 16 }
  | .sfdToc => { s with saved.sfdToc := w.setWidth 16 }
  | .rxSniff => { s with saved.rxSniff := w.setWidth 16 }
  | .ciaAdjust => { s with saved.ciaAdjust := w.setWidth 16 }
  | .xtalTrim => { s with saved.xtalTrim := w.setWidth 8 }
  | .xtalRef => { s with saved.xtalRef := w.setWidth 32 }
  | .xtalAlpha => { s with saved.xtalAlpha := w.setWidth 32 }
  | .xtalBeta => { s with saved.xtalBeta := w.setWidth 32 }
  | .pllCc => { s with saved.pllCc := w.setWidth 32 }
  | .txPower => { s with saved.txPower := w.setWidth 32 }
  | .aonCfg => { s with aonCfg := w.setWidth 16 }
  | .sleepCnt => { s with sleepCnt := w.setWidth 16 }
  | .devId | .sysState | .sysStatus | .cmd | .cmdResult | .sysTime | .txStamp | .txRawst | .dbStatus | .rxFinfo | .rxRawst
  | .rxStampIp | .rxStampSts1 | .rxStampSts2 | .poaIp | .poaSts1 | .poaSts2 | .rxTdoa | .rxPdoa | .stsQual | .stsSts | .ipDiag
  | .sts1Diag | .sts2Diag | .dgcDcsn | .tempSense | .rxCalResi | .rxCalResq | .adcThresh | .calStatus | .txpwrIdx | .otpPartid
  | .otpLotid | .otpVbat | .otpVtemp | .otpXtrim | .otpBias | .otpLdotune | .otpDgc => s

/-! ### Octets of a register (rule R62) -/

/-- Octet `k` of a register: its bits `8k+7 : 8k`. -/
def octet (w : Wide) (k : Nat) : Byte := w.extractLsb' (8 * k) 8

/-- The value of `n` octets, the first least significant. -/
def leValue : List Byte → Wide
  | [] => 0
  | b :: rest => b.setWidth 160 ||| (leValue rest <<< 8)

/-- The `n` low octets of a container, all ones. -/
def lowOctets (n : Nat) : Wide := BitVec.ofNat 160 (2 ^ (8 * n) - 1)

/-- A register's content with octets `off` to `off + n - 1` replaced by the `n` low octets of `v`. -/
def splice (old : Wide) (off n : Nat) (v : Wide) : Wide :=
  (old &&& ~~~(lowOctets n <<< (8 * off))) ||| ((v &&& lowOctets n) <<< (8 * off))

/-- `MemRead(id, off, n)` (rules R12, R62). -/
def memRead (s : State) (r : Reg) (off n : Nat) : List Byte := (List.range n).map fun k => octet (regView s r) (off + k)

/-- The `n` octets of a register from `off` as one number (rule R62). -/
def memValue (s : State) (r : Reg) (off n : Nat) : Wide := (regView s r >>> (8 * off)) &&& lowOctets n

end Sys2Proof.Machine
end

