-- ==== Sys2Proof/Machine/Flags.lean ====
section
/-! DEFINITION. The flags: the event bits of `SYS_STATUS` (rule R25), result codes (rule R251), the write-one-to-clear rule (R105)
and the interrupt line (R256). -/

namespace Sys2Proof.Machine

/-- The 23 events of `SYS_STATUS` (rule R25). -/
inductive Event where
  | cplock | txfrs | rxprd | rxsfdd | rxphd | rxphe | rxfr | rxfcg | rxfce | rxfsl | rxfto | rxpto
  | rxsto | rxsloss | ciadone | dlylate | ccafail | rxovrr | spicrce | cmderr | cmddone | dspiavail | woke
  deriving DecidableEq, Repr

/-- The bit of an event (rule R25). -/
def eventBit : Event → Nat
  | .cplock => 0
  | .txfrs => 1
  | .rxprd => 2
  | .rxsfdd => 3
  | .rxphd => 4
  | .rxphe => 5
  | .rxfr => 6
  | .rxfcg => 7
  | .rxfce => 8
  | .rxfsl => 9
  | .rxfto => 10
  | .rxpto => 11
  | .rxsto => 12
  | .rxsloss => 13
  | .ciadone => 14
  | .dlylate => 15
  | .ccafail => 16
  | .rxovrr => 17
  | .spicrce => 18
  | .cmderr => 19
  | .cmddone => 20
  | .dspiavail => 21
  | .woke => 22

/-- The mask of an event. -/
def eventMask (e : Event) : BitVec 32 := 1#32 <<< eventBit e

/-- Whether an event's bit is set. -/
def eventSet (s : State) (e : Event) : Bool := s.sysStatus.getLsbD (eventBit e)

/-- `set STATUS.X` (rule R12). -/
def setEvent (e : Event) (s : State) : State := { s with sysStatus := s.sysStatus ||| eventMask e }

/-- `set STATUS.X` where a condition holds. -/
def setEventIf (c : Bool) (e : Event) (s : State) : State := if c then setEvent e s else s

/-- An event's bit cleared by hardware (rule R85 does so to `CMDDONE`, and nothing else does). -/
def clearEvent (e : Event) (s : State) : State := { s with sysStatus := s.sysStatus &&& ~~~eventMask e }

/-- The result codes (rule R251). -/
inductive ResultCode where
  | success | error | errPllLock | errRxCalPgf | errRxCalResi | errRxCalResq | errRxAdcCal
  deriving DecidableEq, Repr

/-- The value of a result code in `CMD_RESULT` (rule R251). -/
def resultByte : ResultCode → BitVec 8
  | .success => 0x00
  | .error => 0xFF
  | .errPllLock => 0xFE
  | .errRxCalPgf => 0xFD
  | .errRxCalResi => 0xFC
  | .errRxCalResq => 0xFB
  | .errRxAdcCal => 0xFA

/-- `result <- c` (rule R12). -/
def setResult (c : ResultCode) (s : State) : State := setEvent .cmddone { s with cmdResult := resultByte c }

/-- `SYS_STATUS` after a host write of `v` at offset `off`: every bit written 1 is cleared (rule R105). -/
def w1cStatus (old : BitVec 32) (off : Nat) (v : Wide) : BitVec 32 := old &&& ~~~((v <<< (8 * off)).setWidth 32)

/-- The interrupt line (rule R256). -/
def irq (s : State) : Bool := !asleep s && (s.sysStatus &&& s.saved.sysEnable) != 0

end Sys2Proof.Machine
end

