-- ==== Sys2Proof/Machine/Ops.lean ====
section
/-! DEFINITION. The shared operations: the port's checks, reading and writing registers with their side effects, the command
mechanism and its error (the block's only "exception", rule R91), the double buffer, reset, sleep and wake. -/

namespace Sys2Proof.Machine

/-! ### Sequencing -/

/-- The next operation on the state an operation answers; a stop stays a stop. -/
def andThen (r : Res) (f : State → Res) : Res :=
  match r with
  | .next s => f s
  | .fault e => .fault e
  | .refused e => .refused e

/-! ### Urgency (rule R265) -/

/-- The transitions of agent `Seq` (rules R146, R149, R150, R152, R163, R172, R173) and the sleep counter's wake (R130). -/
inductive SeqStep where
  | startTx | ccaClear | rmarker | txEnd | startRx | rxTimeout | sniffSwitch | counterWake
  deriving DecidableEq, Repr

/-- Whether a deadline equals `now`. -/
def dueAt (d : Option Time) (s : State) : Bool := d == some s.sysTime

/-- Whether one of the receive timeouts that the phase admits is due (rule R173). -/
def timeoutDue (s : State) : Bool :=
  match s.locus with
  | .rx .hunt => dueAt s.dl.fwto s || dueAt s.dl.pre s
  | .rx .sfdWait => dueAt s.dl.fwto s || dueAt s.dl.sfd s
  | .rx .data => dueAt s.dl.fwto s
  | .init | .idleRc | .idlePll | .tx _ | .rx .wait | .sleep | .deepSleep => false

/-- Whether the sleep counter wakes the block now (rule R130): in `SLEEP` only. -/
def counterDue (s : State) : Bool :=
  wakeCntOf s.aonCfg && s.sleepCnt != 0 && s.aonElapsed == s.sleepCnt.toNat * Config.lpUnit

/-- The `Seq` transition that is due, if any (rule R265). Timeouts that are due together are one step, and it goes before a SNIFF
switch of the same instant (rule R173, D42). -/
def due (s : State) : Option SeqStep :=
  match s.locus with
  | .tx .wait => if dueAt s.dl.start s then some .startTx else none
  | .tx .cca => if dueAt s.dl.cca s then some .ccaClear else none
  | .tx .shr => if dueAt s.dl.rmark s then some .rmarker else none
  | .tx .data => if dueAt s.dl.txend s then some .txEnd else none
  | .rx .wait => if dueAt s.dl.start s then some .startRx else none
  | .rx .hunt => if timeoutDue s then some .rxTimeout else if dueAt s.dl.sniff s then some .sniffSwitch else none
  | .rx .sfdWait | .rx .data => if timeoutDue s then some .rxTimeout else none
  | .sleep => if counterDue s then some .counterWake else none
  | .init | .idleRc | .idlePll | .deepSleep => none

/-! ### The port (rules R100, R111) -/

/-- A port operation's first test: it is enabled only while the block is awake and no `Seq` transition is due. The octets of an
earlier read are gone. -/
def atPort (s : State) (f : State → Res) : Res :=
  if asleep s then .fault .portClosed
  else if (due s).isSome then .fault .seqDue
  else f { s with response := [] }

/-- The access check (rules R61, R92): the id is in the table and the `n` octets at `off` lie in the register. -/
def access (id off : Byte) (n : Nat) (f : Reg → Res) : Res :=
  match regOfId id with
  | none => .refused .reservedId
  | some r => if off.toNat + n ≤ regOctets r then f r else .refused .outOfBounds

/-- The configuration lock holds for a register now (rules R76, R233). -/
def locked (r : Reg) (s : State) : Bool := regLocked r && (active s || busy s)

/-- The transport's verdict, which counts only while `SPI_CRC_EN = 1` (rule R112). -/
def crcGood (s : State) : Bool := s.crcOk || !spiCrcEnOf s.saved.sysCfg

/-- A write or modify under the transport CRC (rule R112, U6): with a good CRC it takes effect; with a bad one it takes effect or
not, a free choice, and `SPICRCE` is set in either case (log entry 11). -/
def underCrc (s : State) (f : State → State) : Res :=
  if crcGood s then .next (f s)
  else if Config.freeBool s.draws then .next (setEvent .spicrce (f { s with draws := s.draws + 1 }))
  else .next (setEvent .spicrce { s with draws := s.draws + 1 })

/-- `k` octets nobody fixes. -/
def freeOctets (draws k : Nat) : List Byte := (List.range k).map fun j => Config.freeByte (draws + j)

/-- A register read of `n` octets (rules R101 to R103, R107): the content, or any octets where the selected buffer set is stale
(rule R41, U4). -/
def readReg (r : Reg) (off n : Nat) (s : State) : State :=
  if regBuffered r && staleAt s s.db.hostBuf then
    { s with response := freeOctets s.draws n, draws := s.draws + n }
  else { s with response := memRead s r off n }

/-! ### Results and `CmdErr` (rules R12, R91) -/

/-- `raise CmdErr`, the answer to every illegal or inadmissible command (rules R12, R91). -/
def raiseCmdErr (s : State) : State := setResult .error (setEvent .cmderr s)

/-! ### The double buffer (rules R178 to R182) -/

/-- `DB_STATUS` with `FULL[n]` given a value. -/
def DbStatus.setFull (d : DbStatus) (n v : Bool) : DbStatus := if n then { d with full1 := v } else { d with full0 := v }

/-- `BUF_STALE[n]` given a value. -/
def setStale (n v : Bool) (s : State) : State := if n then { s with stale1 := v } else { s with stale0 := v }

/-- `buf[n]` given a value. -/
def setBuf (n : Bool) (b : BufSet) (s : State) : State := if n then { s with buf1 := b } else { s with buf0 := b }

/-- The events that announce a frame waiting in the other buffer set (rule R182). -/
def announceFrame (s : State) : State := setEvent .ciadone (setEvent .rxfcg (setEvent .rxfr s))

/-- `FreeBuffer()` (rule R182). -/
def freeBuffer (s : State) : State :=
  let n := s.db.hostBuf
  let s' := setStale n true { s with db := { s.db.setFull n false with hostBuf := !n } }
  if s.db.full (!n) then announceFrame s' else s'

/-- `FillBuffer(n)` (rule R180). -/
def fillBuffer (n : Bool) (s : State) : State :=
  let s' := setStale n false s
  if dbEnOf s.saved.sysCfg then { s' with db := { s'.db.setFull n true with hwBuf := !n } } else s'

/-- The double-buffer state after a write that changed `DB_EN` (rule R178). -/
def resetDb (s : State) : State :=
  { s with db := { hwBuf := false, hostBuf := false, full0 := false, full1 := false }, stale0 := false, stale1 := false }

/-- The receiver was to be enabled over a full buffer (rule R179): double-buffer mode and `FULL[HW_BUF]`. -/
def overrun (s : State) : Bool := dbEnOf s.saved.sysCfg && s.db.full s.db.hwBuf

/-! ### Register writes and their side effects (rules R66, R104, R105, R236) -/

/-- Receive calibration invalidated: `PGF_DONE` and `ADC_DONE` cleared (rule R236). -/
def dropRxCal (s : State) : State := { s with cal := { s.cal with pgfDone := false, adcDone := false } }

/-- A channel change: all calibration invalidated, and `IDLE_PLL` left for `IDLE_RC` (rule R236). -/
def channelChanged (s : State) : State :=
  let s' := { s with cal := { s.cal with pgfDone := false, adcDone := false, pllLocked := false } }
  match s.locus with
  | .idlePll => { s' with locus := .idleRc }
  | .init | .idleRc | .tx _ | .rx _ | .sleep | .deepSleep => s'

/-- The side effects of a register write, by what changed between the state before and the state after it (rules R66, R178, R236).
For `CHAN_CTRL` every bit but `CHAN` counts as "any other bit" (log entry 14). -/
def writeEffects (r : Reg) (old s : State) : State :=
  match r with
  | .sysCfg =>
    let s' := if dbEnOf old.saved.sysCfg != dbEnOf s.saved.sysCfg then resetDb s else s
    if pdoaModeOf old.saved.sysCfg != pdoaModeOf s.saved.sysCfg || stsModeOf old.saved.sysCfg != stsModeOf s.saved.sysCfg
    then dropRxCal s' else s'
  | .chanCtrl =>
    if chanOf old.saved.chanCtrl != chanOf s.saved.chanCtrl then channelChanged s
    else if old.saved.chanCtrl != s.saved.chanCtrl then dropRxCal s else s
  | .phyCfg =>
    if old.saved.phyCfg.extractLsb' 0 21 != s.saved.phyCfg.extractLsb' 0 21 then dropRxCal s else s
  | .txFctrl => if txbrOf old.saved.txFctrl != txbrOf s.saved.txFctrl then dropRxCal s else s
  | _ => s

/-- A host write to `SYS_STATUS` (rule R105), with the auto-mode free it may bring (rule R182). -/
def writeStatus (off : Nat) (v : Wide) (s : State) : State :=
  let s' := { s with sysStatus := w1cStatus s.sysStatus off v }
  if eventSet s .rxfcg && !eventSet s' .rxfcg && dbEnOf s.saved.sysCfg && dbAutoOf s.saved.sysCfg && s.db.full s.db.hostBuf
  then freeBuffer s' else s'

/-- A write of the `n` octets of `v` at `off`, by access class (rule R113). A write of this kind to `CMD` carries no command word and
raises `CmdErr` (rule R85). -/
def writeReg (r : Reg) (off n : Nat) (v : Wide) (s : State) : State :=
  match regAccess r with
  | .ro => s
  | .rw => writeEffects r s (regPut r (splice (regView s r) off n v) s)
  | .w1c => writeStatus off v s
  | .wo => raiseCmdErr s

/-- The value a modify writes (rule R68). -/
def modified (s : State) (r : Reg) (off n : Nat) (andMask orMask : Wide) : Wide :=
  (memValue s r off n &&& andMask) ||| orMask

/-! ### Port operations -/

/-- A read of `width` octets whose record says `n` (rules R92, R100, R101). -/
def portRead (id off n : Byte) (width : Nat) (s : State) : Res :=
  atPort s fun s =>
    if n.toNat ≠ width then .refused .badCount
    else access id off width fun r => .next (readReg r off.toNat width s)

/-- A write of `width` octets whose record says `n` (rules R92, R76, R112, R113). -/
def portWrite (id off n : Byte) (width : Nat) (v : Wide) (s : State) : Res :=
  atPort s fun s =>
    if n.toNat ≠ width then .refused .badCount
    else access id off width fun r =>
      if locked r s then .refused .configLocked
      else underCrc s fun s => writeReg r off.toNat width v s

/-- A modify of `width` octets whose record says `n` (rules R92, R76, R106, R117): read, mask and write in one step. -/
def portModify (id off n : Byte) (width : Nat) (andMask orMask : Wide) (s : State) : Res :=
  atPort s fun s =>
    if n.toNat ≠ width then .refused .badCount
    else access id off width fun r =>
      if locked r s then .refused .configLocked
      else if r = .sysStatus ∨ r = .cmd then .refused .modOnSpecial
      else underCrc s fun s => writeReg r off.toNat width (modified s r off.toNat width andMask orMask) s

/-! ### Commands (rules R85, R90) -/

/-- A command word written to `CMD`: `CMDDONE` is cleared, the five admission tests of rule R90 are made in order, and an admitted
command runs. Tests 2 to 5 (`argsOk`, not `BUSY`, `admits`, `extra`) answer `CmdErr`; the first refuses (rule R235). A word with a
bad CRC is refused (rule R112). -/
def command (soft argsOk : Bool) (admits extra : State → Bool) (body : State → Res) (s : State) : Res :=
  atPort s fun s =>
    if !crcGood s then .refused .commandBadCrc
    else
      let s := clearEvent .cmddone s
      if s.cal.cfgUndef && !soft then .refused .cfgUndef
      else if !argsOk then .next (raiseCmdErr s)
      else if busy s && !soft then .next (raiseCmdErr s)
      else if !admits s then .next (raiseCmdErr s)
      else if !extra s then .next (raiseCmdErr s)
      else body s

/-! ### Intervals (rule R166) -/

/-- A product of a count and a unit as an interval; none where it reaches `2^39` DTU (U8). -/
def interval (count unit : Nat) : Option Time :=
  if count * unit < Config.intervalLimit then some (BitVec.ofNat 40 (count * unit)) else none

/-- A deadline `count` units after `now`, disabled where the count is 0 (rule R166); the outer none stands for `refuse`. -/
def deadlineAfter (now : Time) (count unit : Nat) : Option (Option Time) :=
  if count = 0 then some none
  else match interval count unit with
    | some d => some (some (now + d))
    | none => none

/-! ### Delayed starts (rules R142 to R144) -/

/-- `Ref(START)` (rule R142). -/
def refTime (start : Start) (s : State) : Time :=
  match start with
  | .dlyRef => s.drefTime
  | .dlyRs => s.rxStampLast
  | .dlyTs => s.txStamp
  | .dlyAbs | .imm | .rsv5 | .rsv6 | .rsv7 => 0

/-- The target time `T` (rule R143). -/
def targetTime (start : Start) (s : State) : Time := refTime start s + s.dxTime

/-- `Late(S)` (rule R144). -/
def late (start now : Time) : Bool := 2 ^ 39 ≤ (start - now).toNat

/-! ### Reset, sleep, wake (rules R51, R128, R131, R280) -/

/-- Every register and hidden variable at its reset value (rules R51, R133, R280). What belongs to the outside stays: the agenda,
the transport's verdict, the count of draws; and the mark `refused`, which is never cleared (rule R49). -/
def blockReset (s : State) : State :=
  { State.reset with
    aonSnapshot := Config.freeSnapshot s.draws
    refused := s.refused
    crcOk := s.crcOk
    agenda := s.agenda
    draws := s.draws + 1 }

/-- `SleepEntry(deep)` (rule R128). -/
def sleepEntry (deep : Bool) (s : State) : State :=
  { s with
    aonSnapshot := s.saved
    dl := Deadlines.none
    calfsm := .none
    cal := { s.cal with pllLocked := false }
    aonElapsed := 0
    locus := if deep then .deepSleep else .sleep }

/-- `Wake` (rule R131). -/
def wake (s : State) : State :=
  setEvent .woke
    { blockReset s with
      aonCfg := s.aonCfg
      sleepCnt := s.sleepCnt
      aonSnapshot := s.aonSnapshot
      saved := if onwRestoreOf s.aonCfg then s.aonSnapshot else Saved.reset }

end Sys2Proof.Machine
end

