-- ==== Sys2Proof/WellFormed.lean ====
section
/-! DEFINITION. The well-formed instructions: `N` fits the tag, the data are `N` octets, no reserved field value, and a command
word is written as its command (rules R81 to R92). -/

namespace Sys2Proof

/-- A `START` value that is not reserved (rule R87). -/
def Start.defined : Start → Bool
  | .imm | .dlyAbs | .dlyRef | .dlyRs | .dlyTs => true
  | .rsv5 | .rsv6 | .rsv7 => false

/-- Arguments of a command that are well formed (rule R90, test 2). -/
def Instr.argsOk : Instr → Bool
  | .tx start _ cca => start.defined && (!cca || start == .imm)
  | .rx start _ => start.defined
  | .setstate target => target != .rsv3
  | .calrx pgf adc => pgf || adc
  | .rd8 .. | .rd16 .. | .rd32 .. | .rdbuf .. | .wr8 .. | .wr16 .. | .wr32 .. | .wrbuf .. | .mod8 .. | .mod16 .. | .mod32 ..
  | .cirrdF .. | .cirrdR .. | .trxoff | .xtalcomp | .txpwr .. | .dbfree | .sleep .. | .softreset => true

/-- `N` of a register-form record is what its tag implies, 1 to 20 for the buffer forms (rule R81). -/
def Instr.countOk : Instr → Bool
  | .rd8 _ _ n | .wr8 _ _ n _ | .mod8 _ _ n _ _ => n == 1
  | .rd16 _ _ n | .wr16 _ _ n _ | .mod16 _ _ n _ _ => n == 2
  | .rd32 _ _ n | .wr32 _ _ n _ | .mod32 _ _ n _ _ => n == 4
  | .rdbuf _ _ n => 1 ≤ n.toNat && n.toNat ≤ 20
  | .wrbuf _ _ n data => 1 ≤ n.toNat && n.toNat ≤ 20 && data.length == n.toNat
  | .cirrdF .. | .cirrdR .. | .trxoff | .tx .. | .rx .. | .setstate .. | .calrx .. | .xtalcomp | .txpwr .. | .dbfree
  | .sleep .. | .softreset => true

/-- The region of a `CIRRD` is 0, 1 or 2 (rule R83). -/
def Instr.regionOk : Instr → Bool
  | .cirrdF region _ _ | .cirrdR region _ _ => region.toNat ≤ 2
  | .rd8 .. | .rd16 .. | .rd32 .. | .rdbuf .. | .wr8 .. | .wr16 .. | .wr32 .. | .wrbuf .. | .mod8 .. | .mod16 .. | .mod32 ..
  | .trxoff | .tx .. | .rx .. | .setstate .. | .calrx .. | .xtalcomp | .txpwr .. | .dbfree | .sleep .. | .softreset => true

/-- A `WR16` that is not the carrier of a command: its record decodes to the write itself (rule R85). -/
def Instr.canonical : Instr → Bool
  | .wr16 id off n v => !(id == cmdId && off == 0 && n == 2) || (decodeCommand v).isNone
  | .rd8 .. | .rd16 .. | .rd32 .. | .rdbuf .. | .wr8 .. | .wr32 .. | .wrbuf .. | .mod8 .. | .mod16 .. | .mod32 ..
  | .cirrdF .. | .cirrdR .. | .trxoff | .tx .. | .rx .. | .setstate .. | .calrx .. | .xtalcomp | .txpwr .. | .dbfree
  | .sleep .. | .softreset => true

/-- A well-formed instruction. Whether its register and octets exist is the access check of rule R61, made by the operation. -/
def Instr.wellFormed (i : Instr) : Bool :=
  i.countOk && i.regionOk && i.argsOk && i.canonical

end Sys2Proof
end

