-- ==== Sys2Proof/Machine/Calibration.lean ====
section
/-! DEFINITION. Calibration: the commands `CALRX`, `XTALCOMP`, `TXPWR` and the steps of agent `Cal` (spec/45_calibration.md). -/

namespace Sys2Proof.Machine

/-! ### `CALRX` -/

/-- The command step of `CALRX` (rule R226). -/
def startCalrx (pgf adc : Bool) (s : State) : State :=
  { s with
    cal := { s.cal with pgfDone := s.cal.pgfDone && !pgf, adcDone := s.cal.adcDone && !adc }
    calfsm := if pgf then .pgf 0 adc else .adc }

/-- `CALRX` is admitted in `IDLE_RC` and `IDLE_PLL` (rule R90). -/
def calrxAdmits (s : State) : Bool := s.locus == .idleRc || s.locus == .idlePll

/-- `CALRX [PGF] [ADC]` (rule R226). -/
def execCalrx (pgf adc : Bool) (s : State) : Res :=
  command false (Instr.calrx pgf adc).argsOk calrxAdmits (fun s => preambleValid (preLenOf s.saved.phyCfg))
    (fun s => .next (startCalrx pgf adc s)) s

/-! ### `XTALCOMP` -/

/-- The temperature `XTALCOMP` compensates for (rule R238): the target, else the sensor, else the default. -/
def xtalTemperature (s : State) : Int :=
  let target := s.saved.xtalRef.extractLsb' 16 8
  if target ≠ Config.tempUnset then target.toInt
  else if s.tempSense.getLsbD 8 then (s.tempSense.extractLsb' 0 8).toInt
  else Config.tempDefault

/-- The correction in trim codes: the formula of rule R238; the division rounds toward minus infinity. -/
def xtalCorrection (alpha beta : BitVec 32) (dT : Int) : Int := (alpha.toInt * dT + beta.toInt * dT * dT) / 2 ^ 22

/-- The correction applied: the formula of rule R238, or the alternative a chip has in its place (U23, log entry 22). -/
def xtalCorrectionApplied (alpha beta : BitVec 32) (dT : Int) : Int :=
  match Config.xtalFn with
  | none => xtalCorrection alpha beta dT
  | some f => f alpha beta dT

/-- `clip(v, lo, hi)` (rule R11). -/
def clip (v lo hi : Int) : Int := if v < lo then lo else if hi < v then hi else v

/-- The new trim code (rule R238). -/
def xtalCode (s : State) : Int :=
  clip (((s.saved.xtalRef.extractLsb' 0 8).toNat : Int) +
      xtalCorrectionApplied s.saved.xtalAlpha s.saved.xtalBeta (xtalTemperature s - (s.saved.xtalRef.extractLsb' 8 8).toInt))
    Config.xtalTrimMin Config.xtalTrimMax

/-- `XTALCOMP` (rule R238). -/
def execXtalcomp (s : State) : Res :=
  command false true idling (fun _ => true)
    (fun s => .next (setResult .success { s with saved.xtalTrim := BitVec.ofInt 8 (xtalCode s) })) s

/-! ### `TXPWR` -/

/-- The power index applied (rule R242): the requested one, clamped to the silicon's maximum. -/
def txpwrEffective (idx : Byte) (s : State) : BitVec 8 :=
  let top := Config.txpwrMaxIdx Config.chipId (chanOf s.saved.chanCtrl)
  if idx.toNat ≤ top.toNat then idx else top

/-- The command step of `TXPWR` (rule R242). -/
def applyTxpwr (idx : Byte) (s : State) : State :=
  { s with
    saved.txPower := Config.txpwrLut Config.chipId (chanOf s.saved.chanCtrl) (txpwrEffective idx s)
    txpwrIdx := txpwrEffective idx s }

/-- `TXPWR idx` (rule R242). -/
def execTxpwr (idx : Byte) (s : State) : Res :=
  command false true idling (fun _ => true) (fun s => .next (setResult .success (applyTxpwr idx s))) s

/-! ### Agent `Cal` -/

/-- `PLL_CC` with the coarse code of the current channel replaced (rule R223). -/
def putCoarseCode (chan : Bool) (cc : BitVec 16) (pllCc : BitVec 32) : BitVec 32 :=
  if chan then cc ++ pllCc.extractLsb' 0 16 else pllCc.extractLsb' 16 16 ++ cc

/-- PLL lock observed (rule R223). -/
def pllLock (cc : BitVec 16) (s : State) : State :=
  setResult .success
    (setEvent .cplock
      { s with
        cal := { s.cal with pllLocked := true }
        saved.pllCc := putCoarseCode (chanOf s.saved.chanCtrl) cc s.saved.pllCc
        calfsm := .none
        locus := .idlePll })

/-- PLL lock not observed (rule R224): the next poll, the next cycle, or failure. -/
def pllMiss (loop poll : Nat) (s : State) : State :=
  if poll + 1 < Config.maxRetriesForPll then { s with calfsm := .pll loop (poll + 1) }
  else if loop + 1 < Config.maxPllCalLoop then { s with calfsm := .pll (loop + 1) 0 }
  else
    setResult .errPllLock { s with calfsm := .none, cal := { s.cal with pllLocked := false, cfgUndef := true } }

/-- `CalFail(code)` (rule R230). -/
def calFail (code : ResultCode) (s : State) : State :=
  setResult code
    { s with calfsm := .none, cal := { s.cal with pgfDone := false, adcDone := false, cfgUndef := true } }

/-- `CalDone()` (rule R231). -/
def calDone (s : State) : State := setResult .success { s with calfsm := .none }

/-- A PGF attempt (rule R227). -/
def pgfAttempt (ok : Bool) (attempt : Nat) (adc : Bool) (s : State) : State :=
  if ok then { s with calfsm := .res adc }
  else if attempt + 1 < Config.maxRetriesForPgf then { s with calfsm := .pgf (attempt + 1) adc }
  else calFail .errRxCalPgf s

/-- The resistor check (rule R228); the I branch is tested first. -/
def resCheck (resi resq : BitVec 29) (adc : Bool) (s : State) : State :=
  let s := { s with rxCalResi := resi.setWidth 32, rxCalResq := resq.setWidth 32 }
  if resi = Config.rxCalInvalid then calFail .errRxCalResi s
  else if resq = Config.rxCalInvalid then calFail .errRxCalResq s
  else
    let s := { s with cal := { s.cal with pgfDone := true } }
    if adc then { s with calfsm := .adc } else calDone s

/-- The ADC offset calibration (rule R229). -/
def adcCal (ok : Bool) (thr : BitVec 32) (s : State) : State :=
  if ok then calDone { s with adcThresh := thr, cal := { s.cal with adcDone := true } }
  else calFail .errRxAdcCal s

/-- One step of agent `Cal` (rule R221), with the environment's answers to its draws. -/
def calStep (d : CalDraw) (s : State) : Res :=
  match s.calfsm with
  | .none => .fault .calIdle
  | .pll loop poll => .next (if d.lock then pllLock d.cc s else pllMiss loop poll s)
  | .pgf attempt adc => .next (pgfAttempt d.ok attempt adc s)
  | .res adc => .next (resCheck d.resi d.resq adc s)
  | .adc => .next (adcCal d.ok d.thr s)

end Sys2Proof.Machine
end

