-- ==== Sys2Proof/Machine/Cia.lean ====
section
/-! DEFINITION. The timestamp and CIR pipeline: `CiaWrite` and the CIR memory (spec/44_cia_pipeline.md, rules R50, R77). -/

namespace Sys2Proof.Machine

/-! ### The CIR memory -/

/-- The address of octet `k` (0 to 5: three of the real part, three of the imaginary part) of sample `i` of region `r`
(log entry 6). -/
def cirAddr (r : Fin 3) (i k : Nat) : Nat := (r.val * Config.cirLenMax + i) * 6 + k

/-- The six octets of a sample from an address on, real part first, least significant octet first (rule R108). -/
def sampleCells (a : Nat) (x : Sample) : Memory :=
  [(a, x.re.extractLsb' 0 8), (a + 1, x.re.extractLsb' 8 8), (a + 2, x.re.extractLsb' 16 8),
   (a + 3, x.im.extractLsb' 0 8), (a + 4, x.im.extractLsb' 8 8), (a + 5, x.im.extractLsb' 16 8)]

/-- The cells of a run of samples from an address on. -/
def runCells (a : Nat) : List Sample → Memory
  | [] => []
  | x :: xs => sampleCells a x ++ runCells (a + 6) xs

/-- The whole CIR memory after a good frame (rule R191): every sample of every region. -/
def cirCells (m : Meas) : Memory :=
  runCells (cirAddr 0 0 0) m.cir0.toList ++ runCells (cirAddr 1 0 0) m.cir1.toList ++ runCells (cirAddr 2 0 0) m.cir2.toList

/-- The octet at an address; none where the memory lists nothing (rule R50: unspecified). -/
def Memory.read (m : Memory) (a : Nat) : Option Byte := List.lookup a m

/-- The canonical form: addresses strictly rising. An unlisted address reads as no fixed octet, so no entry can repeat it. -/
abbrev Memory.wf (m : Memory) : Prop := m.Pairwise fun x y => x.1 < y.1

/-- The octet a read of the CIR memory returns as its `j`-th draw: the listed octet, else a free one (U5). -/
def cirOctet (s : State) (j a : Nat) : Byte :=
  match Memory.read s.cir a with
  | some b => b
  | none => Config.freeByte (s.draws + j)

/-- The addresses a `CIRRD` reads, in the order of the octets it returns: of each sample the octets `ks` (rules R108, R109). -/
def cirAddrs (r : Fin 3) (offset count : Nat) (ks : List Nat) : List Nat :=
  (List.range count).flatMap fun i => ks.map fun k => cirAddr r (offset + i) k

/-- What a `CIRRD` returns: the dummy octet, then the octets at the addresses (rules R108, R109). -/
def cirResponse (s : State) (addrs : List Nat) : List Byte :=
  Config.freeByte s.draws :: addrs.zipIdx.map fun (a, j) => cirOctet s (j + 1) a

/-! ### TDOA and PDOA (rules R194, R196) -/

/-- The pair of measurement points `(a, b)` of a mode, as arrival times; none in mode 0. -/
def toaPair (mode : BitVec 2) (m : Meas) : Option (Time × Time) :=
  if mode = 1 then some (m.toaIp, m.toaSts1)
  else if mode = 3 then some (m.toaSts1, m.toaSts2)
  else none

/-- The pair of measurement points `(a, b)` of a mode, as phases; none in mode 0. -/
def poaPair (mode : BitVec 2) (m : Meas) : Option (BitVec 14 × BitVec 14) :=
  if mode = 1 then some (m.poaIp, m.poaSts1)
  else if mode = 3 then some (m.poaSts1, m.poaSts2)
  else none

/-- The exact difference of two arrival times, packed in 41 bits with the top 7 bits of the register zero (rule R194). -/
def tdoaOf (a b : Time) : BitVec 48 := (BitVec.ofInt 41 ((b.toNat : Int) - (a.toNat : Int))).setWidth 48

/-- The phase difference plus the offset, wrapped to one turn: the formula of rule R196. -/
def pdoaWrapped (a b adj : BitVec 14) : Int :=
  (b.toInt - a.toInt + (adj.toNat : Int) + Config.piQ11) % Config.twoPiQ11 - Config.piQ11

/-- The PDOA of a pair of phases: the formula of rule R196, or the alternative a chip has in its place (U23, log entry 22). -/
def pdoaResult (a b adj : BitVec 14) : Int :=
  match Config.pdoaFn with
  | none => pdoaWrapped a b adj
  | some f => ((f a b adj).val : Int) - Config.piQ11

/-- `Pdoa(meas)` from the PDOA of its pair (rule R196): 14 bits of the 16-bit register. -/
def pdoaPacked (q : Int) : BitVec 16 := (BitVec.ofInt 14 q).setWidth 16

/-- `RX_TDOA` of a frame (rule R194). -/
def tdoaReg (mode : BitVec 2) (m : Meas) : BitVec 48 :=
  match toaPair mode m with
  | some (a, b) => tdoaOf a b
  | none => 0

/-- `RX_PDOA` of a frame (rule R196). -/
def pdoaReg (mode : BitVec 2) (adj : BitVec 14) (m : Meas) : BitVec 16 :=
  match poaPair mode m with
  | some (a, b) => pdoaPacked (pdoaResult a b adj)
  | none => 0

/-! ### `CiaWrite` (rule R191) -/

/-- An arrival time with the receive antenna delay taken off (rule R192). -/
def rxAdjusted (toa : Time) (antd : BitVec 16) : Time := toa - antd.setWidth 40

/-- The buffer set a good frame leaves (rule R191). -/
def ciaBuf (len : BitVec 10) (rng : Bool) (m : Meas) (s : State) : BufSet :=
  { rxFinfo := len.setWidth 32 ||| ((BitVec.ofBool rng).setWidth 32 <<< 10)
    rxRawst := s.rxRaw
    stampIp := rxAdjusted m.toaIp s.saved.rxAntd
    stampSts1 := rxAdjusted m.toaSts1 s.saved.rxAntd
    stampSts2 := rxAdjusted m.toaSts2 s.saved.rxAntd
    poaIp := m.poaIp.setWidth 16
    poaSts1 := m.poaSts1.setWidth 16
    poaSts2 := m.poaSts2.setWidth 16
    rxTdoa := tdoaReg (pdoaModeOf s.saved.sysCfg) m
    rxPdoa := pdoaReg (pdoaModeOf s.saved.sysCfg) (pdoaAdjOf s.saved.ciaAdjust) m
    stsQual := m.stsQual
    stsSts := m.stsSts
    ipDiag := m.diagIp
    sts1Diag := m.diagSts1
    sts2Diag := m.diagSts2
    dgcDcsn := m.dgc.setWidth 8 }

/-- `CiaWrite(n, len, rng, meas)` for a defined `PDOA_MODE` (rule R191). -/
def ciaWrite (n : Bool) (len : BitVec 10) (rng : Bool) (m : Meas) (s : State) : State :=
  setEvent .ciadone
    { setBuf n (ciaBuf len rng m s) s with cir := cirCells m, rxStampLast := rxAdjusted m.toaIp s.saved.rxAntd }

end Sys2Proof.Machine
end

