-- ==== Sys2Proof/Machine/RxSeq.lean ====
section
/-! DEFINITION. The receiver: enabling it, the `RX` and `DBFREE` commands (spec/43_rx_sequencer.md). -/

namespace Sys2Proof.Machine

/-- The first SNIFF switch after the receiver turns on (rule R166); disabled where `OFF = 0`. -/
def sniffFirst (s : State) : Option (Option Time) :=
  if sniffOffOf s.saved.rxSniff = 0 then some none
  else deadlineAfter s.sysTime (sniffOnOf s.saved.rxSniff + 1) (Config.pacDtu (cfgOf s))

/-- `EnterHunt()` (rule R166): the receiver turns on and the timeouts of this attempt are armed. -/
def enterHunt (s : State) : Res :=
  match deadlineAfter s.sysTime (fwtoCountOf s.saved.rxFwto) Config.fwtoUnit,
    deadlineAfter s.sysTime s.saved.preToc.toNat (Config.pacDtu (cfgOf s)), sniffFirst s with
  | some fwto, some pre, some sniff =>
    .next { s with
      locus := .rx .hunt, phrOk := false, sniffOn := true
      dl := { s.dl with fwto := fwto, pre := pre, sfd := none, sniff := sniff } }
  | _, _, _ => .refused .intervalTooLong

/-- What `RxEnableNow()` leaves on an overrun (rules R165, R179). -/
def rxOverrun (s : State) : State := setEvent .rxovrr { s with locus := .idlePll }

/-- `RxEnableNow()` (rule R165); the Boolean it returns is the negation of `overrun`. -/
def rxEnableNow (s : State) : Res := if overrun s then .next (rxOverrun s) else enterHunt s

/-- A delayed reception (rules R161, R164): lateness is tested before overrun. -/
def startRxDelayed (start : Start) (idleOnDlyErr : Bool) (s : State) : Res :=
  if late (targetTime start s) s.sysTime then
    if idleOnDlyErr then .next (setResult .error (setEvent .dlylate s))
    else andThen (rxEnableNow (setEvent .dlylate s)) fun s => .next (setResult .error s)
  else if overrun s then .next (setResult .error (setEvent .rxovrr s))
  else if targetTime start s = s.sysTime then andThen (enterHunt s) fun s => .next (setResult .success s)
  else .next (setResult .success { s with locus := .rx .wait, dl.start := some (targetTime start s) })

/-- An immediate reception (rule R161). -/
def startRxNow (s : State) : Res :=
  if overrun s then .next (setResult .error (rxOverrun s))
  else andThen (enterHunt s) fun s => .next (setResult .success s)

/-- The extra condition of `RX` (rule R90). -/
def rxExtra (s : State) : Bool := preambleValid (preLenOf s.saved.phyCfg) && s.cal.pgfDone && s.cal.adcDone

/-- `RX START [IDLE_ON_DLY_ERR]` (rules R160, R161). -/
def execRx (start : Start) (idleOnDlyErr : Bool) (s : State) : Res :=
  command false (Instr.rx start idleOnDlyErr).argsOk (fun s => s.locus == .idlePll) rxExtra
    (fun s => if start = .imm then startRxNow s else startRxDelayed start idleOnDlyErr s) s

/-- `DBFREE` (rule R181). -/
def execDbfree (s : State) : Res :=
  command false true (fun s => !asleep s) (fun s => dbEnOf s.saved.sysCfg)
    (fun s => if s.db.full s.db.hostBuf then .next (setResult .success (freeBuffer s)) else .next (raiseCmdErr s)) s

end Sys2Proof.Machine
end

