-- ==== Sys2Proof/Machine/StateCmds.lean ====
section
/-! DEFINITION. The state commands `TRXOFF`, `SETSTATE`, `SLEEP`, `SOFTRESET` (spec/41_state_commands.md). -/

namespace Sys2Proof.Machine

/-- The transceiver forced off (rule R120): a transmission or reception in any phase ends in `IDLE_PLL`. -/
def forceOff (s : State) : State :=
  if active s then { s with dl := Deadlines.none, sniffOn := true, txW4r := false, phrOk := false, locus := .idlePll } else s

/-- `TRXOFF` (rule R120). -/
def execTrxoff (s : State) : Res :=
  command false true (fun s => !asleep s) (fun _ => true) (fun s => .next (setResult .success (forceOff s))) s

/-- The three targets of an admitted `SETSTATE` (rules R123 to R125). -/
def setOpstate (target : Target) (s : State) : State :=
  match target with
  | .init => setResult .success { s with cal := { s.cal with pllLocked := false }, locus := .init }
  | .idleRc => setResult .success { s with cal := { s.cal with pllLocked := false }, locus := .idleRc }
  | .idle =>
    match s.locus with
    | .idlePll => setResult .success s
    | .init | .idleRc | .tx _ | .rx _ | .sleep | .deepSleep => { s with locus := .idleRc, calfsm := .pll 0 0 }
  | .rsv3 => raiseCmdErr s

/-- `SETSTATE target` (rule R122). -/
def execSetstate (target : Target) (s : State) : Res :=
  command false (Instr.setstate target).argsOk idling (fun _ => true) (fun s => .next (setOpstate target s)) s

/-- `SLEEP [DEEP]` (rule R127). -/
def execSleep (deep : Bool) (s : State) : Res :=
  command false true idling (fun s => sleepEnOf s.aonCfg) (fun s => .next (sleepEntry deep (setResult .success s))) s

/-- `SOFTRESET` (rule R133): admitted in every awake state, also with `BUSY` and with `CFG_UNDEF`. -/
def execSoftreset (s : State) : Res :=
  command true true (fun s => !asleep s) (fun _ => true) (fun s => .next (blockReset s)) s

end Sys2Proof.Machine
end

