-- ==== Sys2Proof/Machine/TxSeq.lean ====
section
/-! DEFINITION. The `TX` command (spec/42_tx_sequencer.md). The later steps of a transmission are in Machine/Seq.lean. -/

namespace Sys2Proof.Machine

/-- `EnterShr()` (rule R147). -/
def enterShr (s : State) : State :=
  { s with locus := .tx .shr, dl.rmark := some (s.sysTime + (Config.shrDtu (cfgOf s)).setWidth 40) }

/-- An immediate transmission, through the clear-channel window where `CCA = 1` (rules R141, R152). -/
def startTxNow (cca : Bool) (s : State) : Res :=
  if cca then
    match interval s.saved.preToc.toNat (Config.pacDtu (cfgOf s)) with
    | some d => .next (setResult .success { s with locus := .tx .cca, dl.cca := some (s.sysTime + d) })
    | none => .refused .intervalTooLong
  else .next (setResult .success (enterShr s))

/-- The instant a delayed transmission's preamble must begin (rule R141). -/
def txStartTime (start : Start) (s : State) : Time := targetTime start s - (Config.shrDtu (cfgOf s)).setWidth 40

/-- A delayed transmission (rules R141, R145). -/
def startTxDelayed (start : Start) (w4r : Bool) (s : State) : State :=
  if late (txStartTime start s) s.sysTime then setResult .error (setEvent .dlylate s)
  else if txStartTime start s = s.sysTime then setResult .success (enterShr { s with txW4r := w4r })
  else setResult .success { s with txW4r := w4r, locus := .tx .wait, dl.start := some (txStartTime start s) }

/-- The extra condition of `TX` (rule R90). -/
def txExtra (w4r cca : Bool) (s : State) : Bool :=
  preambleValid (preLenOf s.saved.phyCfg) && (!cca || s.saved.preToc != 0) && (!w4r || (s.cal.pgfDone && s.cal.adcDone))

/-- `TX START [W4R] [CCA]` (rules R140, R141). -/
def execTx (start : Start) (w4r cca : Bool) (s : State) : Res :=
  command false (Instr.tx start w4r cca).argsOk (fun s => s.locus == .idlePll) (txExtra w4r cca)
    (fun s => if start = .imm then startTxNow cca { s with txW4r := w4r } else .next (startTxDelayed start w4r s)) s

end Sys2Proof.Machine
end

