-- ==== Sys2Proof/Machine/PortOps.lean ====
section
/-! DEFINITION. The port operations (spec/40_port_ops.md), and the command word a `WR16 CMD` carries (rules R85 to R90). -/

namespace Sys2Proof.Machine

/-! ### Reads -/

/-- `RD8` (rule R101). -/
def execRd8 (id off n : Byte) (s : State) : Res := portRead id off n 1 s

/-- `RD16` (rule R102). -/
def execRd16 (id off n : Byte) (s : State) : Res := portRead id off n 2 s

/-- `RD32` (rule R103). -/
def execRd32 (id off n : Byte) (s : State) : Res := portRead id off n 4 s

/-- The count of a buffer form is 1 to 20 (rule R81). -/
def bufCountOk (n : Byte) : Bool := 1 ≤ n.toNat && n.toNat ≤ 20

/-- `RDBUF` (rule R107). -/
def execRdbuf (id off n : Byte) (s : State) : Res :=
  if bufCountOk n then portRead id off n n.toNat s else atPort s fun _ => .refused .badCount

/-! ### Writes -/

/-- `WR8` (rule R113). -/
def execWr8 (id off n : Byte) (v : BitVec 8) (s : State) : Res := portWrite id off n 1 (v.setWidth 160) s

/-- A command word that is no command's: a reserved opcode or a set must-be-zero bit (rule R90, test 2). -/
def malformedCommand (w : BitVec 16) (s : State) : Res :=
  command (opOf w == opSoftreset) false (fun _ => true) (fun _ => true) (fun s => .next s) s

/-- A command word issued by `WR16 CMD, 0, w` (rule R85). -/
def issueCommand (w : BitVec 16) (s : State) : Res :=
  match decodeCommand w with
  | some .trxoff => execTrxoff s
  | some (.tx start w4r cca) => execTx start w4r cca s
  | some (.rx start i) => execRx start i s
  | some (.setstate target) => execSetstate target s
  | some (.calrx pgf adc) => execCalrx pgf adc s
  | some .xtalcomp => execXtalcomp s
  | some (.txpwr idx) => execTxpwr idx s
  | some .dbfree => execDbfree s
  | some (.sleep deep) => execSleep deep s
  | some .softreset => execSoftreset s
  | some (.rd8 ..) | some (.rd16 ..) | some (.rd32 ..) | some (.rdbuf ..) | some (.wr8 ..) | some (.wr16 ..) | some (.wr32 ..)
  | some (.wrbuf ..) | some (.mod8 ..) | some (.mod16 ..) | some (.mod32 ..) | some (.cirrdF ..) | some (.cirrdR ..) | none =>
    malformedCommand w s

/-- `WR16` (rule R114): a write, or a command word where it is `WR16 CMD, 0, word`. -/
def execWr16 (id off n : Byte) (v : BitVec 16) (s : State) : Res :=
  if id = cmdId ∧ off = 0 ∧ n = 2 then issueCommand v s else portWrite id off n 2 (v.setWidth 160) s

/-- `WR32` (rule R115). -/
def execWr32 (id off n : Byte) (v : BitVec 32) (s : State) : Res := portWrite id off n 4 (v.setWidth 160) s

/-- `WRBUF` (rule R116). -/
def execWrbuf (id off n : Byte) (data : List Byte) (s : State) : Res :=
  if bufCountOk n && data.length == n.toNat then portWrite id off n n.toNat (leValue data) s
  else atPort s fun _ => .refused .badCount

/-! ### Modifies -/

/-- `MOD8` (rule R117). -/
def execMod8 (id off n : Byte) (andMask orMask : BitVec 8) (s : State) : Res :=
  portModify id off n 1 (andMask.setWidth 160) (orMask.setWidth 160) s

/-- `MOD16` (rule R118). -/
def execMod16 (id off n : Byte) (andMask orMask : BitVec 16) (s : State) : Res :=
  portModify id off n 2 (andMask.setWidth 160) (orMask.setWidth 160) s

/-- `MOD32` (rule R119). -/
def execMod32 (id off n : Byte) (andMask orMask : BitVec 32) (s : State) : Res :=
  portModify id off n 4 (andMask.setWidth 160) (orMask.setWidth 160) s

/-! ### CIR reads -/

/-- The region a `CIRRD` names (rule R83). -/
def regionOf (b : Byte) : Option (Fin 3) := if h : b.toNat < 3 then some ⟨b.toNat, h⟩ else none

/-- A read of `count` samples from `offset`, of each the octets `ks` (rules R108, R109). -/
def portCirRead (region : Byte) (offset count : BitVec 16) (ks : List Nat) (s : State) : Res :=
  atPort s fun s =>
    match regionOf region with
    | none => .refused .reservedRegion
    | some r =>
      if offset.toNat + count.toNat ≤ Config.cirLen r then
        let addrs := cirAddrs r offset.toNat count.toNat ks
        .next { s with response := cirResponse s addrs, draws := s.draws + (1 + addrs.length) }
      else .refused .cirOutOfRange

/-- `CIRRD.F` (rule R108): all six octets of a sample. -/
def execCirrdF (region : Byte) (offset count : BitVec 16) (s : State) : Res :=
  portCirRead region offset count [0, 1, 2, 3, 4, 5] s

/-- `CIRRD.R` (rule R109): bits 23:8 of each component, so the two upper octets of each. -/
def execCirrdR (region : Byte) (offset count : BitVec 16) (s : State) : Res :=
  portCirRead region offset count [1, 2, 4, 5] s

end Sys2Proof.Machine
end

