-- ==== Sys2Proof/Machine/Dispatch.lean ====
section
/-! DEFINITION. The meaning of every instruction, one arm per constructor. -/

namespace Sys2Proof.Machine

def exec (i : Instr) (s : State) : Host.Outcome State Fault Refusal :=
  match i with
  | .rd8 id off n => Sys2Proof.Machine.execRd8 id off n s
  | .rd16 id off n => Sys2Proof.Machine.execRd16 id off n s
  | .rd32 id off n => Sys2Proof.Machine.execRd32 id off n s
  | .rdbuf id off n => Sys2Proof.Machine.execRdbuf id off n s
  | .wr8 id off n v => Sys2Proof.Machine.execWr8 id off n v s
  | .wr16 id off n v => Sys2Proof.Machine.execWr16 id off n v s
  | .wr32 id off n v => Sys2Proof.Machine.execWr32 id off n v s
  | .wrbuf id off n data => Sys2Proof.Machine.execWrbuf id off n data s
  | .mod8 id off n andMask orMask => Sys2Proof.Machine.execMod8 id off n andMask orMask s
  | .mod16 id off n andMask orMask => Sys2Proof.Machine.execMod16 id off n andMask orMask s
  | .mod32 id off n andMask orMask => Sys2Proof.Machine.execMod32 id off n andMask orMask s
  | .cirrdF region offset count => Sys2Proof.Machine.execCirrdF region offset count s
  | .cirrdR region offset count => Sys2Proof.Machine.execCirrdR region offset count s
  | .trxoff => Sys2Proof.Machine.execTrxoff s
  | .tx start w4r cca => Sys2Proof.Machine.execTx start w4r cca s
  | .rx start idleOnDlyErr => Sys2Proof.Machine.execRx start idleOnDlyErr s
  | .setstate target => Sys2Proof.Machine.execSetstate target s
  | .calrx pgf adc => Sys2Proof.Machine.execCalrx pgf adc s
  | .xtalcomp => Sys2Proof.Machine.execXtalcomp s
  | .txpwr idx => Sys2Proof.Machine.execTxpwr idx s
  | .dbfree => Sys2Proof.Machine.execDbfree s
  | .sleep deep => Sys2Proof.Machine.execSleep deep s
  | .softreset => Sys2Proof.Machine.execSoftreset s

end Sys2Proof.Machine
end

