-- ==== Sys2Proof/Machine/Seq.lean ====
section
/-! DEFINITION. The transitions of agent `Seq` and the events of agent `Air`: how a transmission and a reception proceed and end
(spec/42_tx_sequencer.md rules R146 to R152, spec/43_rx_sequencer.md rules R163 to R177). -/

namespace Sys2Proof.Machine

/-! ### Transmission -/

/-- Start of an armed transmission (rule R146). -/
def startArmedTx (s : State) : State := enterShr { s with dl.start := none }

/-- The clear-channel window ended: the transmission starts (rule R152). -/
def ccaClear (s : State) : State := enterShr { s with dl.cca := none }

/-- The channel is busy (rule R152). -/
def ccaBusy (s : State) : State :=
  { setEvent .ccafail s with dl.cca := none, txW4r := false, locus := .idlePll }

/-- `RMARKER` (rule R149). -/
def rmarker (s : State) : State :=
  { s with
    txRawst := s.sysTime
    txStamp := s.sysTime + s.saved.txAntd.setWidth 40
    locus := .tx .data
    dl.rmark := none
    dl.txend := some (s.sysTime + (Config.dataDtu (cfgOf s) (txflenOf s.saved.txFctrl)).setWidth 40) }

/-- End of a transmitted frame (rules R150, R151, R132). -/
def endTx (s : State) : Res :=
  let s := { setEvent .txfrs s with dl.txend := none }
  if s.txW4r then rxEnableNow { s with txW4r := false }
  else if atxSlpOf s.aonCfg && sleepEnOf s.aonCfg then .next (sleepEntry (deepOf s.aonCfg) s)
  else .next { s with locus := .idlePll }

/-! ### Reception: the ends of an attempt -/

/-- `RxStop()` (rule R174). -/
def rxStop (s : State) : State :=
  { s with
    dl := { s.dl with fwto := none, pre := none, sfd := none, sniff := none }
    sniffOn := true
    phrOk := false }

/-- `RxGood(len, rng, meas)` (rule R174); a frame with the reserved `PDOA_MODE` is refused (rule R191, U9). -/
def rxGood (len : BitVec 10) (rng : Bool) (m : Meas) (s : State) : Res :=
  if pdoaModeOf s.saved.sysCfg = 2 then .refused .pdoaModeReserved
  else
    let n := dbEnOf s.saved.sysCfg && s.db.hwBuf
    let s := rxStop (fillBuffer n (ciaWrite n len rng m s))
    if arxSlpOf s.aonCfg && sleepEnOf s.aonCfg then .next (sleepEntry (deepOf s.aonCfg) s)
    else if dbEnOf s.saved.sysCfg && rxAutoReenOf s.saved.sysCfg then rxEnableNow s
    else .next { s with locus := .idlePll }

/-- `RxError()` (rules R175, R176). -/
def rxError (s : State) : Res :=
  let s := rxStop s
  if rxAutoReenOf s.saved.sysCfg then enterHunt s else .next { s with locus := .idlePll }

/-- `RxTimeout()` (rule R177). -/
def rxTimeoutEnd (s : State) : State := { rxStop s with locus := .idlePll }

/-- The receive timeouts due now (rule R173): every one that the phase admits sets its bit, and the attempt ends once. -/
def rxTimeout (s : State) : State :=
  rxTimeoutEnd
    (setEventIf (s.locus == .rx .sfdWait && dueAt s.dl.sfd s) .rxsto
      (setEventIf (s.locus == .rx .hunt && dueAt s.dl.pre s) .rxpto
        (setEventIf (dueAt s.dl.fwto s) .rxfto s)))

/-- Start of an armed reception (rule R163). -/
def startArmedRx (s : State) : Res := enterHunt { s with dl.start := none }

/-- The SNIFF switch (rule R172). -/
def sniffSwitch (s : State) : Res :=
  if s.sniffOn then
    match interval (sniffOffOf s.saved.rxSniff) Config.sniffOffUnit with
    | some d => .next { s with sniffOn := false, dl.sniff := some (s.sysTime + d) }
    | none => .refused .intervalTooLong
  else
    match interval (sniffOnOf s.saved.rxSniff + 1) (Config.pacDtu (cfgOf s)) with
    | some d => .next { s with sniffOn := true, dl.sniff := some (s.sysTime + d) }
    | none => .refused .intervalTooLong

/-- The transition of agent `Seq` that is due (rule R265). -/
def fire (t : SeqStep) (s : State) : Res :=
  match t with
  | .startTx => .next (startArmedTx s)
  | .ccaClear => .next (ccaClear s)
  | .rmarker => .next (rmarker s)
  | .txEnd => endTx s
  | .startRx => startArmedRx s
  | .rxTimeout => .next (rxTimeout s)
  | .sniffSwitch => sniffSwitch s
  | .counterWake => .next (wake s)

/-! ### Air events -/

/-- `PreambleDetect` while hunting (rule R167). -/
def preambleFound (s : State) : Res :=
  match deadlineAfter s.sysTime s.saved.sfdToc.toNat (Config.symDtu (cfgOf s)) with
  | some sfd =>
    .next { setEvent .rxprd s with
      dl := { s.dl with pre := none, sniff := none, sfd := sfd }, sniffOn := true, locus := .rx .sfdWait }
  | none => .refused .intervalTooLong

/-- `SfdDetect` (rule R168). -/
def sfdFound (s : State) : State :=
  { setEvent .rxsfdd s with dl.sfd := none, rxRaw := s.sysTime, locus := .rx .data }

/-- `FrameEnd(kind, len, rng, meas)` (rule R170). -/
def frameEnd (kind : FrameKind) (len : BitVec 10) (rng : Bool) (m : Meas) (s : State) : Res :=
  match kind with
  | .good => rxGood len rng m (setEvent .rxfcg (setEvent .rxfr s))
  | .crcErr => rxError (setEvent .rxfce (setEvent .rxfr s))
  | .rsErr => rxError (setEvent .rxfsl s)

/-- One event of agent `Air`, in the phases that admit it (rules R152, R167 to R171); elsewhere it has no step (rule R185). -/
def airStep (e : AirEvent) (s : State) : Res :=
  match e, s.locus with
  | .preambleDetect, .tx .cca => .next (ccaBusy s)
  | .preambleDetect, .rx .hunt => if s.sniffOn then preambleFound s else .fault .airNotAdmitted
  | .sfdDetect, .rx .sfdWait => .next (sfdFound s)
  | .phrResult ok, .rx .data =>
    if s.phrOk then .fault .airNotAdmitted
    else if ok then .next { setEvent .rxphd s with phrOk := true }
    else rxError (setEvent .rxphe s)
  | .frameEnd kind len rng m, .rx .data => if s.phrOk then frameEnd kind len rng m s else .fault .airNotAdmitted
  | .syncLoss, .rx .sfdWait => rxError (setEvent .rxsloss s)
  | .syncLoss, .rx .data => rxError (setEvent .rxsloss s)
  | _, _ => .fault .airNotAdmitted

end Sys2Proof.Machine
end

