-- ==== Sys2Proof/Machine/Agents.lean ====
section
/-! DEFINITION. One step of an outside agent: the port, the pins, the clock, `Cal`, `Air`, `Env` (rules R9, R44, R100, R130, R240,
R264, R280). -/

namespace Sys2Proof.Machine

/-- `Tick` (rule R44): asleep, only the always-on counter advances. -/
def tick (s : State) : State :=
  if asleep s then { s with aonElapsed := s.aonElapsed + 1 }
  else { s with sysTime := s.sysTime + 1, aonElapsed := s.aonElapsed + 1 }

/-- `WakePin` (rule R130): effective only asleep with `WAKE_PIN = 1`; otherwise it changes nothing (log entry 15). -/
def pinWake (s : State) : State := if asleep s && wakePinOf s.aonCfg then wake s else s

/-- `WakeCS` (rule R130): effective only asleep with `WAKE_CS = 1`. -/
def pinCs (s : State) : State := if asleep s && wakeCsOf s.aonCfg then wake s else s

/-- `TempSample(t)` (rule R240), enabled in every awake state. -/
def tempStep (t : BitVec 8) (s : State) : Res :=
  if asleep s then .fault .envAsleep else .next { s with tempSense := 0x0100#16 ||| t.setWidth 16 }

/-- A record that does not decode, or that goes on after its instruction (rule R92; log entry 13). Asleep, the port has no step at all
(rule R111). -/
def badRecord (why : Refusal) (s : State) : Res := atPort s fun _ => .refused why

/-- A port operation: the record presented is decoded and its instruction runs. -/
def portStep (octets : List Byte) (s : State) : Res :=
  match decode octets with
  | .ok (i, []) => exec i s
  | .ok (_, _ :: _) => badRecord .badRecord s
  | .error .truncated => badRecord .badRecord s
  | .error (.reservedTag _) => badRecord .reservedTag s

/-- One step of an outside agent (rule R264). -/
def perform (a : Action) (s : State) : Res :=
  match a with
  | .port octets crcOk => portStep octets { s with crcOk := crcOk }
  | .wakePin => .next (pinWake s)
  | .wakeCs => .next (pinCs s)
  | .hardReset => .next (blockReset s)
  | .tick => .next (tick s)
  | .cal d => calStep d s
  | .air e => airStep e s
  | .tempSample t => tempStep t s

/-- The step of an outside agent that comes next: the first of the agenda, or a free one where the agenda names none (rule R266). -/
def outsideStep (s : State) : Res :=
  match s.agenda with
  | a :: rest => perform a { s with agenda := rest }
  | [] => perform (Config.freeAction s.draws) { s with draws := s.draws + 1 }

end Sys2Proof.Machine
end

