-- ==== Sys2Proof/Machine/Step.lean ====
section
/-! DEFINITION. One step of the block (rules R264 to R266). -/

namespace Sys2Proof.Machine

/-- One step: a run already refused has none (rule R12); a `Seq` transition that is due goes before everything else (rule R265); else
some outside agent steps (rule R266). -/
def step (s : State) : Host.Outcome State Fault Refusal :=
  if s.refused then .refused .runRefused
  else
    match due s with
    | some t => fire t s
    | none => outsideStep s

/-- The state with an opcode-table word presented at the port as the next operation (log entry 2). -/
def State.withFetchWord (s : State) (nbits w : Nat) : State :=
  { s with agenda := .port (tableRecord nbits w) true :: s.agenda }

end Sys2Proof.Machine
end

