-- ==== Sys2Proof/Machine/HostSide.lean ====
section
/-! DEFINITION. What host software does with the block, as plain functions: reading results (spec/44_cia_pipeline.md rules R195 to
R200, R205), the identity test (R254), the dispatch routine (R258 to R260) and the driver calls (R95). None of it is block state. -/

namespace Sys2Proof.Machine

/-! ### Results -/

/-- The host's value of the TDOA from the octets of `RX_TDOA` (rule R195). -/
def tdoaValue (octets : List Byte) : Int := ((leValue octets).setWidth 41).toInt

/-- `TdoaValid(t)` (rule R198). -/
def tdoaValid (t : Int) : Bool := t.natAbs ≤ Config.validTdoaLimit

/-- The host's value of the PDOA in units of 2^-11 rad (rule R197). -/
def pdoaValue (w : BitVec 16) : Int := (w.extractLsb' 0 14).toInt

/-- `StsReliable` (rule R200). -/
def stsReliable (qual sts : BitVec 16) : Bool := 0 ≤ qual.toInt && sts == 0

/-- `ProbeOk` (rule R254). -/
def probeOk (id : BitVec 32) : Bool := id ∈ Config.knownIds

/-- `CirDecode` at full precision, of octets whose dummy octet is removed (rule R205). -/
def cirDecodeFull : List Byte → List (BitVec 32 × BitVec 32)
  | b0 :: b1 :: b2 :: b3 :: b4 :: b5 :: rest =>
    ((b2 ++ b1 ++ b0).signExtend 32, (b5 ++ b4 ++ b3).signExtend 32) :: cirDecodeFull rest
  | _ => []

/-- `CirDecode` at reduced precision (rule R205). -/
def cirDecodeReduced : List Byte → List (BitVec 32 × BitVec 32)
  | b0 :: b1 :: b2 :: b3 :: rest => ((b1 ++ b0).signExtend 32, (b3 ++ b2).signExtend 32) :: cirDecodeReduced rest
  | _ => []

/-! ### Dispatch (rules R258 to R260) -/

/-- The event categories in priority order (rule R258). -/
inductive Category where
  | txDone | rxGood | rxTimeout | rxError | spiError | dualSpi
  deriving DecidableEq, Repr

/-- The bits that put a status value into a category (rule R258). -/
def categoryTest : Category → BitVec 32
  | .txDone => 0x00000002
  | .rxGood => 0x00000080
  | .rxTimeout => 0x00001C00
  | .rxError => 0x00002320
  | .spiError => 0x00040000
  | .dualSpi => 0x00200000

/-- What the dispatch writes to `SYS_STATUS` for a category (rule R260). -/
def categoryClear (c : Category) (status : BitVec 32) : BitVec 32 :=
  match c with
  | .txDone => 0x00000002
  | .rxGood => 0x000040DC
  | .rxTimeout => status &&& 0x00001C00
  | .rxError => (status &&& 0x00002320) ||| 0x0000005C
  | .spiError => 0x00040000
  | .dualSpi => 0x00200000

/-- Whether a status value is in a category; dual-SPI only on capable silicon (rule R258). -/
def inCategory (c : Category) (status : BitVec 32) : Bool :=
  status &&& categoryTest c != 0 && (c != .dualSpi || Config.hasDualSpi)

/-! ### Host routines -/

/-- The frame part of a snapshot: `datalength` and `rx_flags`, read from `RX_FINFO` (rule R259). -/
structure FrameInfo where
  datalength : BitVec 10
  rxFlags : Bool
  deriving DecidableEq, Repr

/-- The snapshot a callback is given (rule R259): the status value at entry, the dual-SPI bit of it, and for the RX-good-frame category
alone the frame's length and flags. -/
structure Snapshot where
  status : BitVec 32
  dssStat : Bool
  frame : Option FrameInfo
  deriving DecidableEq, Repr

/-- `RX_FINFO.RXFLEN` and `RX_FINFO.RNG` of the value read (rules R39, R259). -/
def frameInfoOf (finfo : BitVec 32) : FrameInfo := { datalength := finfo.extractLsb' 0 10, rxFlags := finfo.getLsbD 10 }

/-- `snapshot(s)`, or `snapshot(s, f)` where `RX_FINFO` was read (rules R259, R260). -/
def snapshot (status : BitVec 32) (finfo : Option (BitVec 32)) : Snapshot :=
  { status := status, dssStat := status.getLsbD 21, frame := finfo.map frameInfoOf }

/-- A host routine that returns an `α`: port operations whose octets decide what follows, waiting until a bit of a mask is set in
`SYS_STATUS` by reading it again and again (rule R234), and calls of the callback registered for a category. A callback answers
whether it issued `DBFREE` itself; one that is not registered does nothing and answers false (rule R260). -/
inductive Routine (α : Type) where
  | done (a : α)
  | op (i : Instr) (next : List Byte → Routine α)
  | await (mask : BitVec 32) (next : Routine α)
  | call (c : Category) (snap : Snapshot) (next : Bool → Routine α)

/-- One routine after another. -/
def Routine.bind {α β : Type} (p : Routine α) (f : α → Routine β) : Routine β :=
  match p with
  | .done a => f a
  | .op i next => .op i fun octets => (next octets).bind f
  | .await mask next => .await mask (next.bind f)
  | .call c snap next => .call c snap fun freed => (next freed).bind f

/-- The routine with the callbacks that `setcallbacks` registered put in the place of their calls (rule R95). -/
def Routine.withCallbacks {α : Type} (cbs : Category → Snapshot → Routine Bool) (p : Routine α) : Routine α :=
  match p with
  | .done a => .done a
  | .op i next => .op i fun octets => (next octets).withCallbacks cbs
  | .await mask next => .await mask (next.withCallbacks cbs)
  | .call c snap next => (cbs c snap).bind fun freed => (next freed).withCallbacks cbs

/-- The next thing a routine does to the block: one port operation at most. Between two such steps every other agent may step (rule
R10). A call that is still there is that of a callback nobody registered. -/
def Routine.step {α : Type} (p : Routine α) (s : State) : Host.Outcome (Routine α × State) Fault Refusal :=
  match p with
  | .done a => .next (.done a, s)
  | .op i next =>
    match exec i s with
    | .next t => .next (next t.response, t)
    | .fault e => .fault e
    | .refused e => .refused e
  | .await mask next =>
    match exec (.rd32 0x03 0 4) s with
    | .next t => .next (if (leValue t.response).setWidth 32 &&& mask = 0 then .await mask next else next, t)
    | .fault e => .fault e
    | .refused e => .refused e
  | .call _ _ next => .next (next false, s)

/-- One port operation, its octets not used. -/
def perform1 (i : Instr) : Routine Unit := .op i fun _ => .done ()

/-- Port operations one after another. -/
def performAll (is : List Instr) : Routine Unit := is.foldr (fun i p => .op i fun _ => p) (.done ())

/-- One port operation and the value of its octets, least significant first (rule R62). -/
def readValue (w : Nat) (i : Instr) : Routine (BitVec w) := .op i fun octets => .done ((leValue octets).setWidth w)

/-- One port operation and its octets. -/
def readOctets (i : Instr) : Routine (List Byte) := .op i fun octets => .done octets

/-- `WR32 SYS_STATUS, v`. -/
def clearStatus (v : BitVec 32) : Routine Unit := perform1 (.wr32 0x03 0 4 v)

/-! ### Dispatch (rule R260) -/

/-- What the dispatch does for one category that is present: the clearing write and the callback, in that order, but for a good frame,
which reads `RX_FINFO`, calls, clears, and in manual mode frees the buffer unless the callback did. -/
def serve (status : BitVec 32) (dbEn dbAuto : Bool) (c : Category) : Routine Unit :=
  match c with
  | .rxGood =>
    (readValue 32 (.rd32 0x17 0 4)).bind fun finfo =>
      .call c (snapshot status (some finfo)) fun freed =>
        (clearStatus (categoryClear c status)).bind fun _ =>
          if dbEn && !dbAuto && !freed then perform1 .dbfree else .done ()
  | .txDone | .rxTimeout | .rxError | .spiError | .dualSpi =>
    (clearStatus (categoryClear c status)).bind fun _ => .call c (snapshot status none) fun _ => .done ()

/-- The branches of the dispatch for a status value: every category present, in priority order, once (spec/90_conflicts.md C3). -/
def serveAll (status : BitVec 32) (dbEn dbAuto : Bool) : List Category → Routine Unit
  | [] => .done ()
  | c :: cs =>
    if inCategory c status then (serve status dbEn dbAuto c).bind fun _ => serveAll status dbEn dbAuto cs
    else serveAll status dbEn dbAuto cs

/-- The dispatch routine (rule R260): one read of `SYS_STATUS`, then its branches. `dbEn` and `dbAuto` are the host's own record of
`SYS_CFG`. -/
def dispatch (dbEn dbAuto : Bool) : Routine Unit :=
  (readValue 32 (.rd32 0x03 0 4)).bind fun status =>
    serveAll status dbEn dbAuto [.txDone, .rxGood, .rxTimeout, .rxError, .spiError, .dualSpi]

/-! ### Driver calls (rule R95) -/

/-- The signed number of a result code (rule R251): `DWT_SUCCESS` 0, `DWT_ERROR` -1, the `DWT_ERR_*` codes -2 to -6. -/
def dwtCode (c : ResultCode) : Int := (resultByte c).toInt

/-- `RD8 CMD_RESULT` as a signed number. -/
def readResult : Routine Int := (readValue 8 (.rd8 0x06 0 1)).bind fun b => .done b.toInt

/-- The bit `CMDDONE` of `SYS_STATUS`. -/
def cmddoneMask : BitVec 32 := eventMask .cmddone

/-- `setdwstate(s)`. -/
def setdwstate (t : Target) : Routine Int :=
  .op (.setstate t) fun _ => .await cmddoneMask ((clearStatus cmddoneMask).bind fun _ => readResult)

/-- What `initialise` leaves in the host's cache; a part that is masked or not reached is none. -/
structure OtpCache where
  partid : Option (BitVec 32)
  lotid : Option (BitVec 32)
  vbat : Option (BitVec 8)
  vtemp : Option (BitVec 8)
  deriving DecidableEq, Repr

/-- A read that a flag masks. -/
def readUnless (skip : Bool) (w : Nat) (i : Instr) : Routine (Option (BitVec w)) :=
  if skip then .done none else (readValue w i).bind fun v => .done (some v)

/-- `initialise(mode)` (rules R95, R254), the three flags of `mode` saying what is skipped. -/
def initialise (skipIds skipVbat skipVtemp : Bool) : Routine (Int × OtpCache) :=
  (readValue 32 (.rd32 0x00 0 4)).bind fun id =>
    if probeOk id then
      (readUnless skipIds 32 (.rd32 0x35 0 4)).bind fun partid =>
      (readUnless skipIds 32 (.rd32 0x36 0 4)).bind fun lotid =>
      (readUnless skipVbat 8 (.rd8 0x37 0 1)).bind fun vbat =>
      (readUnless skipVtemp 8 (.rd8 0x38 0 1)).bind fun vtemp =>
      (readValue 8 (.rd8 0x39 0 1)).bind fun xtrim =>
      (perform1 (.wr8 0x27 0 1 (if xtrim ≠ 0 then xtrim else BitVec.ofNat 8 Config.xtalTrimDefault))).bind fun _ =>
      .done (dwtCode .success, { partid := partid, lotid := lotid, vbat := vbat, vtemp := vtemp })
    else .done (dwtCode .error, { partid := none, lotid := none, vbat := none, vtemp := none })

/-- `CALRX` with its parts, awaited, and its result. Rule R95 has the wait in `configure` only; in the other routines it is the model's
(DESIGN CHOICE, log entry 25). -/
def recalibrate (pgf adc : Bool) : Routine Int := .op (.calrx pgf adc) fun _ => .await cmddoneMask readResult

/-- `setdwstate(IDLE)`, and where it succeeds a receive calibration. -/
def idleThen (next : Routine Int) : Routine Int :=
  (setdwstate .idle).bind fun code => if code = dwtCode .success then next else .done code

/-- The registers `configure` writes: channel, PHY, data rate, STS and PDOA modes. -/
structure RadioConfig where
  chanCtrl : BitVec 16
  phyCfg : BitVec 32
  rate : Bool
  stsMode : BitVec 2
  pdoaMode : BitVec 2
  deriving DecidableEq, Repr

/-- `configure(config)`: a preamble length that is not valid is an error and writes nothing (DESIGN CHOICE, log
entry 25). -/
def configure (c : RadioConfig) : Routine Int :=
  if preambleValid (preLenOf c.phyCfg) then
    (performAll [.wr16 0x0F 0 2 c.chanCtrl, .wr32 0x10 0 4 c.phyCfg,
      .mod32 0x0E 0 4 0xFFFFFBFF ((BitVec.ofBool c.rate).setWidth 32 <<< 10),
      .mod32 0x01 0 4 0xFFFFFF87 (c.pdoaMode.setWidth 32 <<< 3 ||| c.stsMode.setWidth 32 <<< 5)]).bind fun _ =>
    idleThen (recalibrate true true)
  else .done (dwtCode .error)

/-- `setchannel(ch)`; the flag says channel 9. That it stops without `CALRX` where `setdwstate(IDLE)` fails, and which code it returns, is
the model's (DESIGN CHOICE, log entry 25). -/
def setchannel (nine : Bool) : Routine Int :=
  (perform1 (.mod16 0x0F 0 2 0xFFFE (if nine then 1 else 0))).bind fun _ => idleThen (recalibrate true true)

/-- `setstslength(k)`. -/
def setstslength (k : BitVec 3) : Routine Unit := perform1 (.mod32 0x10 0 4 0xFFE3FFFF (k.setWidth 32 <<< 18))

/-- `setdatarate(r)`. -/
def setdatarate (r : Bool) : Routine Unit := perform1 (.mod32 0x0E 0 4 0xFFFFFBFF ((BitVec.ofBool r).setWidth 32 <<< 10))

/-- `setpdoaoffset(v)`. -/
def setpdoaoffset (v : BitVec 16) : Routine Unit := perform1 (.mod16 0x15 0 2 0xC000 (v &&& 0x3FFF))

/-- `configuretxrf(cfg)`. -/
def configuretxrf (power : BitVec 32) : Routine Unit := perform1 (.wr32 0x31 0 4 power)

/-- `starttx(mode)`. -/
def starttx (start : Start) (w4r cca : Bool) : Routine Int := .op (.tx start w4r cca) fun _ => readResult

/-- `rxenable(mode)`. -/
def rxenable (start : Start) (idleOnDlyErr : Bool) : Routine Int := .op (.rx start idleOnDlyErr) fun _ => readResult

/-- `forcetrxoff()`. -/
def forcetrxoff : Routine Unit := perform1 .trxoff

/-- The 40-bit timestamps a host reads (rules R95, R199, R202). -/
inductive TimestampSource where
  | tx | rxRaw | rxIpatov | rxSts1 | rxSts2
  deriving DecidableEq, Repr

/-- The register id of a timestamp (rule R21). -/
def TimestampSource.id : TimestampSource → Byte
  | .tx => 0x0C
  | .rxRaw => 0x18
  | .rxIpatov => 0x19
  | .rxSts1 => 0x1A
  | .rxSts2 => 0x1B

/-- `readtxtimestamp(buf)` and the `readrxtimestamp` calls: the five octets. -/
def readtimestamp (t : TimestampSource) : Routine Time := readValue 40 (.rdbuf t.id 0 5)

/-- Their lo32 form: bits 31:0. -/
def readtimestampLo (t : TimestampSource) : Routine (BitVec 32) := readValue 32 (.rd32 t.id 0 4)

/-- Their hi32 form: bits 39:8. -/
def readtimestampHi (t : TimestampSource) : Routine (BitVec 32) := readValue 32 (.rd32 t.id 1 4)

/-- `readpdoa()`: `sint_14` of bits 13:0. -/
def readpdoa : Routine Int := (readValue 16 (.rd16 0x20 0 2)).bind fun w => .done (pdoaValue w)

/-- `readtdoa(buf)`: the six octets; `tdoaValue` is the host's number (rule R195). -/
def readtdoa : Routine (List Byte) := readOctets (.rdbuf 0x1F 0 6)

/-- The pieces of a CIR read, each of at most `CIR_CHUNK` samples (rules R77, R110); each read's first octet is discarded. `fuel` bounds
the number of pieces. That a range of 0 samples is read by no `CIRRD`, and that every piece but the last has `CIR_CHUNK` samples, is the
model's (DESIGN CHOICE, log entry 25). -/
def readcirFrom (full : Bool) (region : Byte) : Nat → Nat → Nat → Routine (List Byte)
  | 0, _, _ => .done []
  | fuel + 1, offset, count =>
    let k := min count Config.cirChunk
    let read := if full then Instr.cirrdF region (BitVec.ofNat 16 offset) (BitVec.ofNat 16 k)
      else Instr.cirrdR region (BitVec.ofNat 16 offset) (BitVec.ofNat 16 k)
    if count = 0 then .done []
    else (readOctets read).bind fun octets =>
      (readcirFrom full region fuel (offset + k) (count - k)).bind fun rest => .done (octets.drop 1 ++ rest)

/-- `readcir(...)`: the samples of a range, decoded (rule R205). Every piece has a sample, so `count` pieces are enough. -/
def readcir (full : Bool) (region : Byte) (offset count : Nat) : Routine (List (BitVec 32 × BitVec 32)) :=
  (readcirFrom full region count offset count).bind fun octets =>
    .done (if full then cirDecodeFull octets else cirDecodeReduced octets)

/-- What `readdiagnostics` and `nlos_alldiag` read (rules R95, R201). -/
structure Diagnostics where
  ip : BitVec 160
  sts1 : BitVec 160
  sts2 : BitVec 160
  dgc : BitVec 8
  stsQual : BitVec 16
  stsSts : BitVec 16
  deriving DecidableEq, Repr

/-- `readdiagnostics` and `nlos_alldiag`. -/
def readdiagnostics : Routine Diagnostics :=
  (readValue 160 (.rdbuf 0x23 0 20)).bind fun ip =>
  (readValue 160 (.rdbuf 0x24 0 20)).bind fun sts1 =>
  (readValue 160 (.rdbuf 0x25 0 20)).bind fun sts2 =>
  (readValue 8 (.rd8 0x26 0 1)).bind fun dgc =>
  (readValue 16 (.rd16 0x21 0 2)).bind fun qual =>
  (readValue 16 (.rd16 0x22 0 2)).bind fun sts =>
  .done { ip := ip, sts1 := sts1, sts2 := sts2, dgc := dgc, stsQual := qual, stsSts := sts }

/-- `configuresleep(...)`. -/
def configuresleep (aonCfg : BitVec 16) : Routine Unit := perform1 (.wr16 0x33 0 2 aonCfg)

/-- `configuresleepcnt(n)`. -/
def configuresleepcnt (n : BitVec 16) : Routine Unit := perform1 (.wr16 0x34 0 2 n)

/-- `entersleep(...)`. -/
def entersleep (deep : Bool) : Routine Unit := perform1 (.sleep deep)

/-- The writes of the 18 AON-saved registers (rule R129). -/
def configurationWrites (c : Saved) : List Instr :=
  [.wr32 0x01 0 4 c.sysCfg, .wr32 0x04 0 4 c.sysEnable, .wr32 0x0E 0 4 c.txFctrl, .wr16 0x0F 0 2 c.chanCtrl,
    .wr32 0x10 0 4 c.phyCfg, .wr32 0x11 0 4 c.rxFwto, .wr16 0x12 0 2 c.preToc, .wr16 0x13 0 2 c.sfdToc,
    .wr16 0x14 0 2 c.rxSniff, .wr16 0x15 0 2 c.ciaAdjust, .wr16 0x0A 0 2 c.txAntd, .wr16 0x0B 0 2 c.rxAntd] ++
  [.wr8 0x27 0 1 c.xtalTrim, .wr32 0x28 0 4 c.xtalRef, .wr32 0x29 0 4 c.xtalAlpha, .wr32 0x2A 0 4 c.xtalBeta,
    .wr32 0x2C 0 4 c.pllCc, .wr32 0x31 0 4 c.txPower]

/-- `restore_common()`: after a wake, every configuration register that `ONW_RESTORE` did not reload is rewritten (rules R129, R237).
That these are the 18 AON-saved registers, without `DX_TIME` and `DREF_TIME`, is the model's (DESIGN CHOICE, log entry 25). -/
def restoreCommon (onwRestore : Bool) (c : Saved) : Routine Unit :=
  if onwRestore then .done () else performAll (configurationWrites c)

/-- `restore_txrx(mask)`: the PLL first, its failure returned, then what the mask selects (rule R237). What it returns once the PLL has
relocked is the model's (DESIGN CHOICE, log entry 25). -/
def restoreTxrx (pgf adc : Bool) : Routine Int :=
  idleThen (if pgf || adc then recalibrate pgf adc else .done (dwtCode .success))

/-- The double-buffer free signal. -/
def freeSignal : Routine Unit := perform1 .dbfree

/-- Soft reset. -/
def softReset : Routine Unit := perform1 .softreset

end Sys2Proof.Machine
end

