-- ==== Sys2Proof/Safety.lean ====
section
/-! DEFINITION. The terms statements are written in: when a port operation or a command may run, what a safe step is, and the
invariants of the block. -/

namespace Sys2Proof.Machine

/-! ### Readiness -/

/-- A port operation is enabled (rule R100): the block is awake and no `Seq` transition is due. -/
abbrev PortReady (s : State) : Prop := asleep s = false ∧ due s = none

/-- A command word is taken (rules R100, R112, R235): the port is enabled, the transport CRC is good, `CFG_UNDEF = 0`. -/
abbrev CommandReady (s : State) : Prop := PortReady s ∧ crcGood s = true ∧ s.cal.cfgUndef = false

/-- A command's own admission (rule R90, tests 2 to 5), written out from its table; false for a port operation. -/
def admitted (i : Instr) (s : State) : Bool :=
  i.argsOk &&
  match i with
  | .trxoff => !busy s && !asleep s
  | .tx _ w4r cca =>
    !busy s && s.locus == .idlePll && preambleValid (preLenOf s.saved.phyCfg) && (!cca || s.saved.preToc != 0) &&
    (!w4r || (s.cal.pgfDone && s.cal.adcDone))
  | .rx _ _ =>
    !busy s && s.locus == .idlePll && preambleValid (preLenOf s.saved.phyCfg) && s.cal.pgfDone && s.cal.adcDone
  | .setstate _ | .xtalcomp | .txpwr _ => !busy s && idling s
  | .calrx _ _ =>
    !busy s && (s.locus == .idleRc || s.locus == .idlePll) && preambleValid (preLenOf s.saved.phyCfg)
  | .dbfree => !busy s && !asleep s && dbEnOf s.saved.sysCfg
  | .sleep _ => !busy s && idling s && sleepEnOf s.aonCfg
  | .softreset => !asleep s
  | .rd8 .. | .rd16 .. | .rd32 .. | .rdbuf .. | .wr8 .. | .wr16 .. | .wr32 .. | .wrbuf .. | .mod8 .. | .mod16 .. | .mod32 ..
  | .cirrdF .. | .cirrdR .. => false

/-- Whether an instruction is a command (format C). -/
def isCommand (i : Instr) : Bool := (encodeCommand i).isSome

/-! ### Register accesses -/

/-- `i` is a register read of the `n` octets at `off` of register `r`, by a record whose count fits (rules R81, R101 to R103, R107). -/
def Reads (i : Instr) (r : Reg) (off n : Nat) : Prop :=
  i.countOk = true ∧
  match i with
  | .rd8 id o _ => regOfId id = some r ∧ off = o.toNat ∧ n = 1
  | .rd16 id o _ => regOfId id = some r ∧ off = o.toNat ∧ n = 2
  | .rd32 id o _ => regOfId id = some r ∧ off = o.toNat ∧ n = 4
  | .rdbuf id o c => regOfId id = some r ∧ off = o.toNat ∧ n = c.toNat
  | .wr8 .. | .wr16 .. | .wr32 .. | .wrbuf .. | .mod8 .. | .mod16 .. | .mod32 .. | .cirrdF .. | .cirrdR .. | .trxoff | .tx ..
  | .rx .. | .setstate .. | .calrx .. | .xtalcomp | .txpwr .. | .dbfree | .sleep .. | .softreset => False

/-- What a modify writes (rule R68): the octets as they stand, AND the first mask, OR the second. -/
def modifiedValue (s : State) (r : Reg) (off n : Nat) (andMask orMask : Wide) : Wide :=
  (memValue s r off n &&& andMask) ||| orMask

/-- `i` is a write or a modify of the `n` octets at `off` of register `r`, by a record whose count fits, and the number it writes there
in state `s` is `v` (rules R81, R113 to R119). `WR16 CMD, 0` is a command word and no store. -/
def Stores (i : Instr) (s : State) (r : Reg) (off n : Nat) (v : Wide) : Prop :=
  i.countOk = true ∧
  match i with
  | .wr8 id o _ x => regOfId id = some r ∧ off = o.toNat ∧ n = 1 ∧ v = x.setWidth 160
  | .wr16 id o _ x => regOfId id = some r ∧ off = o.toNat ∧ n = 2 ∧ v = x.setWidth 160 ∧ ¬(id = cmdId ∧ o = 0)
  | .wr32 id o _ x => regOfId id = some r ∧ off = o.toNat ∧ n = 4 ∧ v = x.setWidth 160
  | .wrbuf id o c data => regOfId id = some r ∧ off = o.toNat ∧ n = c.toNat ∧ v = leValue data
  | .mod8 id o _ a b =>
    regOfId id = some r ∧ off = o.toNat ∧ n = 1 ∧ v = modifiedValue s r off 1 (a.setWidth 160) (b.setWidth 160)
  | .mod16 id o _ a b =>
    regOfId id = some r ∧ off = o.toNat ∧ n = 2 ∧ v = modifiedValue s r off 2 (a.setWidth 160) (b.setWidth 160)
  | .mod32 id o _ a b =>
    regOfId id = some r ∧ off = o.toNat ∧ n = 4 ∧ v = modifiedValue s r off 4 (a.setWidth 160) (b.setWidth 160)
  | .rd8 .. | .rd16 .. | .rd32 .. | .rdbuf .. | .cirrdF .. | .cirrdR .. | .trxoff | .tx .. | .rx .. | .setstate .. | .calrx ..
  | .xtalcomp | .txpwr .. | .dbfree | .sleep .. | .softreset => False

/-- `i` is a modify. -/
def isModify (i : Instr) : Bool :=
  match i with
  | .mod8 .. | .mod16 .. | .mod32 .. => true
  | .rd8 .. | .rd16 .. | .rd32 .. | .rdbuf .. | .wr8 .. | .wr16 .. | .wr32 .. | .wrbuf .. | .cirrdF .. | .cirrdR .. | .trxoff
  | .tx .. | .rx .. | .setstate .. | .calrx .. | .xtalcomp | .txpwr .. | .dbfree | .sleep .. | .softreset => false

/-- The `ID`, `OFF` and `N` octets of a register-form record (rule R81). -/
def headerOf (i : Instr) : Option (Byte × Byte × Byte) :=
  match i with
  | .rd8 id o c | .rd16 id o c | .rd32 id o c | .rdbuf id o c => some (id, o, c)
  | .wr8 id o c _ | .wr16 id o c _ | .wr32 id o c _ | .wrbuf id o c _ => some (id, o, c)
  | .mod8 id o c _ _ | .mod16 id o c _ _ | .mod32 id o c _ _ => some (id, o, c)
  | .cirrdF .. | .cirrdR .. | .trxoff | .tx .. | .rx .. | .setstate .. | .calrx .. | .xtalcomp | .txpwr .. | .dbfree | .sleep ..
  | .softreset => none

/-- `CHAN_CTRL.CHAN` differs (rule R236, first row). -/
def chanTouched (a b : Saved) : Bool := chanOf a.chanCtrl != chanOf b.chanCtrl

/-- Something differs that invalidates the receive calibration (rule R236, both rows). -/
def rxCalTouched (a b : Saved) : Bool :=
  a.chanCtrl != b.chanCtrl || a.phyCfg.extractLsb' 0 21 != b.phyCfg.extractLsb' 0 21 ||
  pdoaModeOf a.sysCfg != pdoaModeOf b.sysCfg || stsModeOf a.sysCfg != stsModeOf b.sysCfg || txbrOf a.txFctrl != txbrOf b.txFctrl

/-- `SYS_CFG.DB_EN` differs (rule R178). -/
def dbTouched (a b : Saved) : Bool := dbEnOf a.sysCfg != dbEnOf b.sysCfg

/-- `CAL_STATUS` after a store that took the configuration from `a` to `b` (rule R236). -/
def calAfter (a b : Saved) (c : CalStatus) : CalStatus :=
  { c with
    pllLocked := c.pllLocked && !chanTouched a b
    pgfDone := c.pgfDone && !rxCalTouched a b
    adcDone := c.adcDone && !rxCalTouched a b }

/-! ### The receiver -/

/-- A timeout of `count` units from `now`: disabled where the count is 0 (rule R35). -/
def timeoutFrom (now : Time) (count unit : Nat) : Option Time :=
  if count = 0 then none else some (now + BitVec.ofNat 40 (count * unit))

/-- No product of rule R166 reaches `2^39` DTU. -/
def huntFits (s : State) : Prop :=
  fwtoCountOf s.saved.rxFwto * Config.fwtoUnit < 2 ^ 39 ∧ s.saved.preToc.toNat * Config.pacDtu (cfgOf s) < 2 ^ 39 ∧
  (sniffOffOf s.saved.rxSniff ≠ 0 → (sniffOnOf s.saved.rxSniff + 1) * Config.pacDtu (cfgOf s) < 2 ^ 39)

/-- The state `EnterHunt()` leaves (rule R166). -/
def hunting (s : State) : State :=
  { s with
    locus := .rx .hunt
    phrOk := false
    sniffOn := true
    dl := { s.dl with
      fwto := timeoutFrom s.sysTime (fwtoCountOf s.saved.rxFwto) Config.fwtoUnit
      pre := timeoutFrom s.sysTime s.saved.preToc.toNat (Config.pacDtu (cfgOf s))
      sfd := none
      sniff :=
        if sniffOffOf s.saved.rxSniff = 0 then none
        else some (s.sysTime + BitVec.ofNat 40 ((sniffOnOf s.saved.rxSniff + 1) * Config.pacDtu (cfgOf s))) } }

/-- The state `RxStop()` leaves (rule R174). -/
def stopped (s : State) : State :=
  { s with dl := { s.dl with fwto := none, pre := none, sfd := none, sniff := none }, sniffOn := true, phrOk := false }

/-- The phases that admit an air event (rules R152, R167 to R171). -/
def airAdmitted (e : AirEvent) (s : State) : Bool :=
  match e with
  | .preambleDetect => s.locus == .tx .cca || (s.locus == .rx .hunt && s.sniffOn)
  | .sfdDetect => s.locus == .rx .sfdWait
  | .phrResult _ => s.locus == .rx .data && !s.phrOk
  | .frameEnd .. => s.locus == .rx .data && s.phrOk
  | .syncLoss => s.locus == .rx .sfdWait || s.locus == .rx .data

/-- The status bits of an air event that is a receive error (rules R169 to R171); none for one that is not. -/
def airErrorBits (e : AirEvent) : Option (BitVec 32) :=
  match e with
  | .phrResult false => some 0x00000020
  | .frameEnd .crcErr _ _ _ => some 0x00000140
  | .frameEnd .rsErr _ _ _ => some 0x00000200
  | .syncLoss => some 0x00002000
  | .preambleDetect | .sfdDetect | .phrResult true | .frameEnd .good _ _ _ => none

/-! ### Sleep, wake, calibration -/

/-- The state `Wake` leaves (rule R131). -/
def woken (s : State) : State :=
  { State.reset with
    aonCfg := s.aonCfg
    sleepCnt := s.sleepCnt
    aonSnapshot := s.aonSnapshot
    saved := if onwRestoreOf s.aonCfg then s.aonSnapshot else State.reset.saved
    sysStatus := 0x00400000
    refused := s.refused
    crcOk := s.crcOk
    agenda := s.agenda
    draws := s.draws + 1 }

/-- The step of an outside agent that comes next where no `Seq` transition is due: the first of the agenda, or a free one (log entry
1). -/
def nextAction (s : State) : Action :=
  match s.agenda with
  | a :: _ => a
  | [] => Config.freeAction s.draws

/-- Steps of agent `Cal`, one a draw. -/
def calRun : List CalDraw → State → Res
  | [], s => .next s
  | d :: ds, s => andThen (calStep d s) (calRun ds)

/-- How many steps of agent `Cal` a calibration can still take (rule R221). -/
def calLeft (c : CalFsm) : Nat :=
  match c with
  | .none => 0
  | .pll loop poll => Config.maxPllCalLoop * Config.maxRetriesForPll - (loop * Config.maxRetriesForPll + poll)
  | .pgf attempt _ => Config.maxRetriesForPgf + 2 - attempt
  | .res _ => 2
  | .adc => 1

/-- The arrival-time pair and phase pair of a `PDOA_MODE` (rule R194). -/
def pairOf (mode : BitVec 2) (m : Meas) : Option ((Time × Time) × (BitVec 14 × BitVec 14)) :=
  if mode = 1 then some ((m.toaIp, m.toaSts1), (m.poaIp, m.poaSts1))
  else if mode = 3 then some ((m.toaSts1, m.toaSts2), (m.poaSts1, m.poaSts2))
  else none

/-- The samples of a region in a measurement record (rule R190). -/
def samplesOf (m : Meas) (r : Fin 3) : List Sample :=
  match r with
  | 0 => m.cir0.toList
  | 1 => m.cir1.toList
  | 2 => m.cir2.toList

/-! ### Safe steps -/

/-- A step that is given a next state. -/
def Completes (r : Res) : Prop := ∃ t, r = .next t

/-- A run of the agenda as far as it goes that is never refused (rule R255: a proof must show the program avoids it). -/
def NeverRefused (fuel : Nat) (s : State) : Prop := ∀ k ≤ fuel, ∀ e, Host.Core.run ⟨State, Fault, Refusal, step, .reset⟩ k s ≠ .refused e

/-! ### Invariants -/

/-- The deadlines armed are those of the phase (rule R47 and the rules that arm and clear them). -/
def deadlinesFit (l : Locus) (d : Deadlines) : Bool :=
  match l with
  | .init | .idleRc | .idlePll | .sleep | .deepSleep => d == Deadlines.none
  | .tx .wait | .rx .wait => d.start.isSome && { d with start := none } == Deadlines.none
  | .tx .cca => d.cca.isSome && { d with cca := none } == Deadlines.none
  | .tx .shr => d.rmark.isSome && { d with rmark := none } == Deadlines.none
  | .tx .data => d.txend.isSome && { d with txend := none } == Deadlines.none
  | .rx .hunt => { d with fwto := none, pre := none, sniff := none } == Deadlines.none
  | .rx .sfdWait => { d with fwto := none, sfd := none } == Deadlines.none
  | .rx .data => { d with fwto := none } == Deadlines.none

/-- The calibration machine fits the locus and its budgets (rules R24, R48, R220). -/
def calFits (l : Locus) (c : CalFsm) : Bool :=
  match c with
  | .none => true
  | .pll loop poll => l == .idleRc && loop < Config.maxPllCalLoop && poll < Config.maxRetriesForPll
  | .pgf attempt _ => (l == .idleRc || l == .idlePll) && attempt < Config.maxRetriesForPgf
  | .res _ | .adc => l == .idleRc || l == .idlePll

/-- `OPSTATE` is one of those in which the PLL is locked (rule R225). -/
def needsPll (l : Locus) : Bool :=
  match l with
  | .idlePll | .tx _ | .rx _ => true
  | .init | .idleRc | .sleep | .deepSleep => false

/-- A deadline that is armed has not passed (rule R265). -/
def notPassed (d : Option Time) (now : Time) : Bool :=
  match d with
  | some t => !late t now
  | none => true

/-- No armed deadline has passed, nor the sleep counter its target (rule R265). -/
def noneMissed (s : State) : Bool :=
  notPassed s.dl.start s.sysTime && notPassed s.dl.cca s.sysTime && notPassed s.dl.rmark s.sysTime &&
  notPassed s.dl.txend s.sysTime && notPassed s.dl.fwto s.sysTime && notPassed s.dl.pre s.sysTime &&
  notPassed s.dl.sfd s.sysTime && notPassed s.dl.sniff s.sysTime &&
  (s.locus != .sleep || !wakeCntOf s.aonCfg || s.sleepCnt == 0 || s.aonElapsed ≤ s.sleepCnt.toNat * Config.lpUnit)

/-- The sequencer's invariant: deadlines, calibration machine, PLL lock, undefined configuration and the hidden flags fit the locus
(rules R24, R47, R48, R225, R235, R265). -/
structure SeqInv (s : State) : Prop where
  deadlines : deadlinesFit s.locus s.dl = true
  calibration : calFits s.locus s.calfsm = true
  pll : needsPll s.locus = true → s.cal.pllLocked = true
  undef : s.cal.cfgUndef = true → s.calfsm = .none ∧ (s.locus = .idleRc ∨ s.locus = .idlePll)
  sniff : s.sniffOn = false → s.locus = .rx .hunt ∧ s.dl.sniff.isSome = true
  phr : s.phrOk = true → s.locus = .rx .data
  w4r : s.txW4r = true → ∃ p, s.locus = .tx p
  onTime : noneMissed s = true

/-- `DB_STATUS` agrees with a count of fills and frees (rule R183): pointers equal with none or both full, or different with exactly the
host's set full. -/
def dbConsistent (d : DbStatus) : Bool :=
  if d.hwBuf == d.hostBuf then d.full0 == d.full1 else d.full d.hostBuf && !d.full d.hwBuf

/-- `OPSTATE` is `RX`. -/
def receiving (l : Locus) : Bool :=
  match l with
  | .rx _ => true
  | .init | .idleRc | .idlePll | .tx _ | .sleep | .deepSleep => false

/-- The double buffer's invariant (rules R38, R179, R183): nothing set while the mode is off, pointers and flags consistent, and the
receiver never on over a full buffer. -/
structure DbInv (s : State) : Prop where
  off : dbEnOf s.saved.sysCfg = false → s.db = { hwBuf := false, hostBuf := false, full0 := false, full1 := false }
  consistent : dbConsistent s.db = true
  room : receiving s.locus = true → dbEnOf s.saved.sysCfg = true → s.db.full s.db.hwBuf = false

/-- The reserved bits of a buffer set read as rules R39, R40 and R207 say, and the PDOA is in its range. -/
def bufFits (b : BufSet) : Bool :=
  b.rxFinfo >>> 11 == 0 && b.poaIp >>> 14 == 0 && b.poaSts1 >>> 14 == 0 && b.poaSts2 >>> 14 == 0 && b.rxTdoa >>> 41 == 0 &&
  b.rxPdoa >>> 14 == 0 && -Config.piQ11 ≤ pdoaValue b.rxPdoa && pdoaValue b.rxPdoa < Config.piQ11 && b.dgcDcsn >>> 3 == 0

/-- The registers' invariant: reserved bits, result codes, the CIR memory's canonical form (rules R25, R39, R40, R43, R50, R207, R240,
R251). -/
structure RegInv (s : State) : Prop where
  status : s.sysStatus >>> 23 = 0
  result : ∃ c, s.cmdResult = resultByte c
  set0 : bufFits s.buf0 = true
  set1 : bufFits s.buf1 = true
  resistors : s.rxCalResi >>> 29 = 0 ∧ s.rxCalResq >>> 29 = 0
  sensor : s.tempSense >>> 9 = 0
  memory : Memory.wf s.cir

/-- The kinds of operating state (rule R24, `OPSTATE` alone). -/
inductive OpKind where
  | init | idleRc | idlePll | tx | rx | asleep
  deriving DecidableEq, Repr

/-- The operating state of a locus. -/
def kindOf (l : Locus) : OpKind :=
  match l with
  | .init => .init
  | .idleRc => .idleRc
  | .idlePll => .idlePll
  | .tx _ => .tx
  | .rx _ => .rx
  | .sleep | .deepSleep => .asleep

/-- The transitions of `OPSTATE` that rule R126 lists, and staying. -/
def mayGo (a b : OpKind) : Bool :=
  a == b ||
  match a, b with
  | _, .init => true
  | .init, .idleRc | .idlePll, .idleRc | .idleRc, .idlePll => true
  | .idlePll, .tx | .idlePll, .rx => true
  | .tx, .idlePll | .tx, .rx | .tx, .asleep => true
  | .rx, .idlePll | .rx, .asleep => true
  | .init, .asleep | .idleRc, .asleep | .idlePll, .asleep => true
  | _, _ => false

end Sys2Proof.Machine
end

