-- ==== Sys2Proof/Certificates/Slice0/Obligations.lean ====
section
/-! DEFINITION. The statements for the provers. -/

open Sys2Proof Sys2Proof.Machine

/-- Decoding the record of a well-formed instruction gives it back (rules R81, R83, R85, R86). -/
def Obligations.decode_of_encode : Prop :=
  ∀ (i : Instr) (rest : List Byte), i.wellFormed = true → decode (encode i ++ rest) = .ok (i, rest)

/-- Every record has one meaning: encoding what was decoded gives the record back (rules R81, R83, R85, R86). -/
def Obligations.encode_of_decode : Prop :=
  ∀ (r rest : List Byte) (i : Instr), decode r = .ok (i, rest) → encode i ++ rest = r

/-- Words and tags: a command word decodes to a command exactly when it is its word; reserved words and tags to none (rules R82,
R85, R86, R87, R88, R89, R92). That a word with a reserved field value decodes to its row is the model's reading (log entry 13).
-/
def Obligations.words_and_tags : Prop :=
  (∀ (w : BitVec 16) (i : Instr), decodeCommand w = some i ↔ encodeCommand i = some w) ∧
  (∀ w : BitVec 16, decodeCommand w = none ↔
    (10 ≤ (opOf w).toNat ∨
      ((opOf w).toNat ∈ [0, 5, 7, 9] ∧ w.extractLsb' 0 12 ≠ 0) ∨
      (opOf w = 1 ∧ w.extractLsb' 5 7 ≠ 0) ∨
      (opOf w = 2 ∧ w.extractLsb' 4 8 ≠ 0) ∨
      (opOf w = 3 ∧ w.extractLsb' 2 10 ≠ 0) ∨
      (opOf w = 4 ∧ w.extractLsb' 2 10 ≠ 0) ∨
      (opOf w = 6 ∧ w.extractLsb' 8 4 ≠ 0) ∨
      (opOf w = 8 ∧ w.extractLsb' 1 11 ≠ 0))) ∧
  (∀ (tag t : Byte) (r : List Byte), decode (tag :: r) = .error (.reservedTag t) ↔
    (t = tag ∧ tag ∉ ([0x00, 0x01, 0x02, 0x03, 0x10, 0x11, 0x12, 0x13, 0x20, 0x21, 0x22, 0x30, 0x31] : List Byte)))

/-- Records written out from the spec's encoding decode to the operation they stand for (rules R81, R83, R87, R94). -/
def Obligations.spec_records_decode : Prop :=
  decode [0x12, 0x0E, 0x00, 0x04, 0xFF, 0xFF, 0xFF, 0xFF] = .ok (.wr32 0x0E 0 4 0xFFFFFFFF, []) ∧
  decode [0x20, 0x0E, 0x01, 0x01, 0xFB, 0x04] = .ok (.mod8 0x0E 1 1 0xFB 0x04, []) ∧
  decode [0x21, 0x15, 0x00, 0x02, 0x00, 0xC0, 0x7D, 0x00] = .ok (.mod16 0x15 0 2 0xC000 0x007D, []) ∧
  decode [0x02, 0x00, 0x00, 0x04] = .ok (.rd32 0x00 0 4, []) ∧
  decode [0x03, 0x1F, 0x00, 0x06] = .ok (.rdbuf 0x1F 0 6, []) ∧
  decode [0x30, 0x00, 0x05, 0x00, 0x01, 0x00] = .ok (.cirrdF 0 5 1, []) ∧
  decode [0x11, 0x05, 0x00, 0x02, 0x0B, 0x10] = .ok (.tx .dlyRs true false, []) ∧
  decode [0x11, 0x05, 0x00, 0x02, 0x28, 0x60] = .ok (.txpwr 0x28, [])

/-- A step that is given a port record runs the instruction the record decodes to (rules R9, R10, R80, R100, R264). The agenda and
withFetchWord are the model's own devices (log entries 1 and 2). -/
def Obligations.step_runs_decoded : Prop :=
  (∀ (s : State) (octets : List Byte) (c : Bool) (rest : List Action) (i : Instr), s.refused = false → due s = none →
    s.agenda = .port octets c :: rest → decode octets = .ok (i, []) →
    step s = exec i { s with agenda := rest, crcOk := c }) ∧
  (∀ (s : State) (nbits w : Nat) (i : Instr), s.refused = false → due s = none →
    decode (tableRecord nbits w) = .ok (i, []) → step (s.withFetchWord nbits w) = exec i { s with crcOk := true })

/-- What comes next: nothing in a refused run, a due Seq transition before all else, else one step of an outside agent (rules R9,
R12, R264, R265, R266). The agenda and the free action are the model's choice (log entry 1). -/
def Obligations.step_order : Prop :=
  (∀ (e : AirEvent) (s : State), perform (.air e) s = airStep e s) ∧
  (∀ (d : CalDraw) (s : State), perform (.cal d) s = calStep d s) ∧
  ∀ s : State,
    (s.refused = true → step s = .refused .runRefused) ∧
    (∀ q, s.refused = false → due s = some q → step s = fire q s) ∧
    (∀ a rest, s.refused = false → due s = none → s.agenda = a :: rest → step s = perform a { s with agenda := rest }) ∧
    (s.refused = false → due s = none → s.agenda = [] →
      step s = perform (Config.freeAction s.draws) { s with draws := s.draws + 1 })

/-- No instruction runs asleep or while a Seq transition is due (rules R100, R111, R265). The two fault names are the model's
rendering of a step that is not enabled (log entry 3). -/
def Obligations.port_closed : Prop :=
  ∀ (i : Instr) (s : State),
    (asleep s = true → exec i s = .fault .portClosed) ∧
    (asleep s = false → due s ≠ none → exec i s = .fault .seqDue)

/-- The register table: every id, size and access class of rule R21 (rules R21, R69). -/
def Obligations.register_table : Prop :=
  (∀ id : Byte, regOfId id = regTable[id.toNat]?) ∧
  regTable =
    ([.devId, .sysCfg, .sysState, .sysStatus, .sysEnable, .cmd, .cmdResult, .sysTime] : List Reg) ++
    ([.dxTime, .drefTime, .txAntd, .rxAntd, .txStamp, .txRawst, .txFctrl, .chanCtrl] : List Reg) ++
    ([.phyCfg, .rxFwto, .preToc, .sfdToc, .rxSniff, .ciaAdjust, .dbStatus, .rxFinfo] : List Reg) ++
    ([.rxRawst, .rxStampIp, .rxStampSts1, .rxStampSts2, .poaIp, .poaSts1, .poaSts2, .rxTdoa] : List Reg) ++
    ([.rxPdoa, .stsQual, .stsSts, .ipDiag, .sts1Diag, .sts2Diag, .dgcDcsn, .xtalTrim] : List Reg) ++
    ([.xtalRef, .xtalAlpha, .xtalBeta, .tempSense, .pllCc, .rxCalResi, .rxCalResq, .adcThresh] : List Reg) ++
    ([.calStatus, .txPower, .txpwrIdx, .aonCfg, .sleepCnt, .otpPartid, .otpLotid, .otpVbat] : List Reg) ++
    ([.otpVtemp, .otpXtrim, .otpBias, .otpLdotune, .otpDgc] : List Reg) ∧
  (∀ id : Byte, (regOfId id).isSome = decide (id.toNat < 0x3D)) ∧
  regTable.map (fun r => (idOfReg r).toNat) = List.range 0x3D ∧
  regTable.map regOctets =
    [4, 4, 1, 4, 4, 2, 1, 5, 5, 5, 2, 2, 5, 5, 4, 2, 4, 4, 2, 2, 2, 2, 1, 4, 5, 5, 5, 5, 2, 2, 2, 6] ++
    [2, 2, 2, 20, 20, 20, 1, 1, 4, 4, 4, 2, 4, 4, 4, 4, 1, 4, 1, 2, 2, 4, 4, 1, 1, 1, 1, 4, 1] ∧
  (regTable.filter (fun r => regAccess r == .rw)).map (fun r => (idOfReg r).toNat) =
    [0x01, 0x04, 0x08, 0x09, 0x0A, 0x0B, 0x0E, 0x0F, 0x10, 0x11, 0x12, 0x13, 0x14, 0x15] ++
    [0x27, 0x28, 0x29, 0x2A, 0x2C, 0x31, 0x33, 0x34] ∧
  (regTable.filter (fun r => regAccess r == .w1c)).map (fun r => (idOfReg r).toNat) = [0x03] ∧
  (regTable.filter (fun r => regAccess r == .wo)).map (fun r => (idOfReg r).toNat) = [0x05] ∧
  (regTable.filter regBuffered).map (fun r => (idOfReg r).toNat) = (List.range 16).map (· + 0x17)

/-- The state after reset: every register, deadline and hidden variable at the value rule R281 gives (rules R21, R51, R280, R281).
That the CIR memory lists nothing stands for contents the spec leaves unspecified (log entry 6). -/
def Obligations.reset_values : Prop :=
  (∀ r : Reg, regView State.reset r =
    match r with
    | .devId => Config.chipId.setWidth 160
    | .phyCfg => 0x00000040
    | .xtalTrim => resetTrim.setWidth 160
    | .xtalRef => ((Config.tempUnset.setWidth 160) <<< 16) ||| 0x1900 ||| resetTrim.setWidth 160
    | .otpPartid => Config.otpPartid.setWidth 160
    | .otpLotid => Config.otpLotid.setWidth 160
    | .otpVbat => Config.otpVbat.setWidth 160
    | .otpVtemp => Config.otpVtemp.setWidth 160
    | .otpXtrim => Config.otpXtrim.setWidth 160
    | .otpBias => Config.otpBias.setWidth 160
    | .otpLdotune => Config.otpLdotune.setWidth 160
    | .otpDgc => Config.otpDgc.setWidth 160
    | _ => 0) ∧
  resetTrim.toNat = (if Config.otpXtrim = 0 then Config.xtalTrimDefault else Config.otpXtrim.toNat) ∧
  State.reset.locus = .init ∧ State.reset.calfsm = .none ∧ State.reset.dl = Deadlines.none ∧ State.reset.sniffOn = true ∧
  State.reset.txW4r = false ∧ State.reset.phrOk = false ∧ State.reset.rxRaw = 0 ∧ State.reset.rxStampLast = 0 ∧
  State.reset.stale0 = false ∧ State.reset.stale1 = false ∧ State.reset.aonElapsed = 0 ∧
  State.reset.buf0 = BufSet.reset ∧ State.reset.buf1 = BufSet.reset ∧ State.reset.refused = false ∧ State.reset.cir = []

/-- The octets a read returns are the register's value, least significant first; lo32 and hi32 of a 40-bit register (rules R31,
R62, R63). -/
def Obligations.octets_little_endian : Prop :=
  (∀ (s : State) (r : Reg) (off n : Nat), n ≤ 20 →
    (leValue (memRead s r off n)).toNat = ∑ j ∈ Finset.range n, (octet (regView s r) (off + j)).toNat * 2 ^ (8 * j) ∧
    (leValue (memRead s r off n)).toNat = (regView s r).toNat / 2 ^ (8 * off) % 2 ^ (8 * n)) ∧
  (∀ (s : State) (r : Reg), regOctets r = 5 →
    (leValue (memRead s r 0 4)).toNat = (regView s r).toNat % 2 ^ 32 ∧
    (leValue (memRead s r 1 4)).toNat = (regView s r).toNat / 2 ^ 8)

/-- RD8, RD16, RD32 and RDBUF complete: they return the octets addressed and change nothing else (rules R41, R62, R65, R66, R101,
R102, R103, R107). The field response is the model's own (log entry 12). -/
def Obligations.reads_return_octets : Prop :=
  ∀ (i : Instr) (s : State) (r : Reg) (off n : Nat), PortReady s → Reads i r off n → off + n ≤ regOctets r →
    (regBuffered r = true → staleAt s s.db.hostBuf = false) →
    exec i s = .next { s with response := (List.range n).map fun k => (regView s r).extractLsb' (8 * (off + k)) 8 }

/-- A read of a freed buffer set returns free octets, each read fresh ones, and changes nothing else (rules R41, R182, R285, 93
U4). The statement holds for every value of the free octets (log entry 5). -/
def Obligations.stale_reads_are_free : Prop :=
  ∀ (i : Instr) (s : State) (r : Reg) (off n : Nat), PortReady s → Reads i r off n → off + n ≤ regOctets r →
    regBuffered r = true → staleAt s s.db.hostBuf = true →
    exec i s = .next { s with
      response := (List.range n).map fun k => Config.freeByte (s.draws + k)
      draws := s.draws + n }

/-- WR8/16/32, WRBUF and MOD8/16/32 on an RW register complete: exactly the addressed octets change, with the tabled side effects
(rules R66, R68, R113, R114, R115, R116, R117, R118, R119, R178, R236). That a change of a reserved bit of CHAN_CTRL counts in
rule R236 is the model's reading (log entry 14). -/
def Obligations.store_rw : Prop :=
  ∀ (i : Instr) (s : State) (r : Reg) (off n : Nat) (v : Wide), PortReady s → crcGood s = true → Stores i s r off n v →
    off + n ≤ regOctets r → regAccess r = .rw → locked r s = false →
    ∃ t, exec i s = .next t ∧
      (∀ k, k < regOctets r →
        octet (regView t r) k = if off ≤ k ∧ k < off + n then octet v (k - off) else octet (regView s r) k) ∧
      t = { regPut r (regView t r) s with
        response := []
        cal := calAfter s.saved t.saved s.cal
        locus := if chanTouched s.saved t.saved = true ∧ s.locus = .idlePll then .idleRc else s.locus
        db := if dbTouched s.saved t.saved then { hwBuf := false, hostBuf := false, full0 := false, full1 := false } else s.db
        stale0 := s.stale0 && !dbTouched s.saved t.saved
        stale1 := s.stale1 && !dbTouched s.saved t.saved }

/-- Round trip: what a write or modify stored in an RW register is what RDBUF then returns (rule R67). -/
def Obligations.store_reads_back : Prop :=
  ∀ (i : Instr) (s : State) (id : Byte) (r : Reg) (off n : Nat) (v : Wide), PortReady s → crcGood s = true →
    Stores i s r off n v → regOfId id = some r → off + n ≤ regOctets r → regAccess r = .rw → locked r s = false →
    ∃ t u, exec i s = .next t ∧ exec (.rdbuf id (BitVec.ofNat 8 off) (BitVec.ofNat 8 n)) t = .next u ∧
      u.response = (List.range n).map fun k => octet v k

/-- Stores to read-only registers and to the zero bits of SYS_STATUS change nothing; a WR8 or WRBUF to CMD is CmdErr (rules R85,
R91, R104, R113, R116). That CMDDONE is not cleared first by a WR8 CMD is the model's reading (log entry 19). -/
def Obligations.store_ro_and_cmd : Prop :=
  ∀ (i : Instr) (s : State) (r : Reg) (off n : Nat) (v : Wide), PortReady s → crcGood s = true → Stores i s r off n v →
    off + n ≤ regOctets r →
    (regAccess r = .ro → exec i s = .next { s with response := [] }) ∧
    (r = .sysStatus → isModify i = false → (v <<< (8 * off)).extractLsb' 0 23 = 0 → s.sysStatus >>> 23 = 0 →
      exec i s = .next { s with response := [] }) ∧
    (r = .cmd → isModify i = false →
      exec i s = .next { s with response := [], cmdResult := 0xFF, sysStatus := s.sysStatus ||| 0x00180000 })

/-- A write to SYS_STATUS clears exactly the bits written 1; in auto mode clearing RXFCG frees the host's buffer (rule R105). -/
def Obligations.store_status_clears : Prop :=
  ∀ (i : Instr) (s : State) (off n : Nat) (v : Wide), PortReady s → crcGood s = true → Stores i s .sysStatus off n v →
    isModify i = false → off + n ≤ 4 →
    ∃ u : State, u = { s with response := [], sysStatus := s.sysStatus &&& ~~~((v <<< (8 * off)).setWidth 32) } ∧
      exec i s = .next
        (if s.sysStatus.getLsbD 7 = true ∧ u.sysStatus.getLsbD 7 = false ∧ dbEnOf s.saved.sysCfg = true ∧
            dbAutoOf s.saved.sysCfg = true ∧ s.db.full s.db.hostBuf = true
          then freeBuffer u else u)

/-- A modify of SYS_STATUS or CMD is refused (rule R106). -/
def Obligations.modify_special_refused : Prop :=
  ∀ (i : Instr) (s : State) (r : Reg) (off n : Nat) (v : Wide), PortReady s → Stores i s r off n v → isModify i = true →
    off + n ≤ regOctets r → (r = .sysStatus ∨ r = .cmd) → exec i s = .refused .modOnSpecial

/-- The configuration lock: stores to the fifteen locked registers are refused in TX, RX and BUSY, and no other register is locked
(rules R76, R233, R290). -/
def Obligations.store_locked_refused : Prop :=
  (∀ (i : Instr) (s : State) (r : Reg) (off n : Nat) (v : Wide), PortReady s → Stores i s r off n v → off + n ≤ regOctets r →
    r ∈ ([.sysCfg, .txFctrl, .chanCtrl, .phyCfg, .rxFwto, .preToc, .sfdToc, .rxSniff, .txAntd, .rxAntd, .ciaAdjust, .dxTime,
      .drefTime, .aonCfg, .sleepCnt] : List Reg) →
    (active s = true ∨ busy s = true) → exec i s = .refused .configLocked) ∧
  (∀ (s : State) (r : Reg), locked r s = true ↔
    (r ∈ ([.sysCfg, .txFctrl, .chanCtrl, .phyCfg, .rxFwto, .preToc, .sfdToc, .rxSniff, .txAntd, .rxAntd, .ciaAdjust, .dxTime,
      .drefTime, .aonCfg, .sleepCnt] : List Reg) ∧ (active s = true ∨ busy s = true)))

/-- Accesses outside the register and CIR spaces, and records that do not decode, are refused (rules R61, R92, R108). That a
record too short or too long is refused is the model's reading (log entry 13). Which refusal comes first is the model's choice
(log entry 20). -/
def Obligations.bad_accesses_refused : Prop :=
  (∀ (i : Instr) (s : State) (id o c : Byte), PortReady s → headerOf i = some (id, o, c) →
    (i.countOk = false → exec i s = .refused .badCount) ∧
    (i.countOk = true → regOfId id = none → exec i s = .refused .reservedId) ∧
    (∀ r, i.countOk = true → regOfId id = some r → regOctets r < o.toNat + c.toNat → exec i s = .refused .outOfBounds)) ∧
  (∀ (s : State) (region : Byte) (o c : BitVec 16), PortReady s →
    (3 ≤ region.toNat → exec (.cirrdF region o c) s = .refused .reservedRegion ∧
      exec (.cirrdR region o c) s = .refused .reservedRegion) ∧
    (∀ r : Fin 3, region.toNat = r.val → Config.cirLen r < o.toNat + c.toNat →
      exec (.cirrdF region o c) s = .refused .cirOutOfRange ∧ exec (.cirrdR region o c) s = .refused .cirOutOfRange)) ∧
  (∀ (s : State) (octets : List Byte) (c : Bool) (rest : List Action), s.refused = false → PortReady s →
    s.agenda = .port octets c :: rest →
    (∀ t : Byte, decode octets = .error (.reservedTag t) → step s = .refused .reservedTag) ∧
    (decode octets = .error .truncated → step s = .refused .badRecord) ∧
    (∀ (i : Instr) (b : Byte) (more : List Byte), decode octets = .ok (i, b :: more) → step s = .refused .badRecord))

/-- A store with a bad transport CRC sets SPICRCE and either happens or does not (rule R112, 93 U6). Which of the two is free (log
entry 11). -/
def Obligations.store_bad_crc : Prop :=
  ∀ (i : Instr) (s : State) (r : Reg) (off n : Nat) (v : Wide), PortReady s → crcGood s = false → Stores i s r off n v →
    off + n ≤ regOctets r → locked r s = false → (isModify i = true → r ≠ .sysStatus ∧ r ≠ .cmd) →
    ∃ t u, exec i s = .next t ∧ exec i { s with crcOk := true } = .next u ∧ eventSet t .spicrce = true ∧
      (t = { s with response := [], draws := s.draws + 1, sysStatus := s.sysStatus ||| 0x00040000 } ∨
        t = { u with crcOk := false, draws := s.draws + 1, sysStatus := u.sysStatus ||| 0x00040000 })

/-- CIRRD.F and CIRRD.R complete in range, with 1 + 6*count and 1 + 4*count octets, and change nothing else (rules R83, R108,
R109). The addresses of the CIR memory are the model's (log entry 6). -/
def Obligations.cirrd_completes : Prop :=
  ∀ (s : State) (region : Byte) (o c : BitVec 16) (r : Fin 3), PortReady s → region.toNat = r.val →
    o.toNat + c.toNat ≤ Config.cirLen r →
    (∃ t, exec (.cirrdF region o c) s = .next t ∧ t = { s with response := t.response, draws := t.draws } ∧
      t.response.length = 1 + 6 * c.toNat ∧
      (∀ k j b, k < c.toNat → j < 6 → Memory.read s.cir (cirAddr r (o.toNat + k) j) = some b →
        t.response[1 + 6 * k + j]? = some b)) ∧
    (∃ t, exec (.cirrdR region o c) s = .next t ∧ t = { s with response := t.response, draws := t.draws } ∧
      t.response.length = 1 + 4 * c.toNat ∧
      (∀ k j b, k < c.toNat → j < 4 →
        Memory.read s.cir (cirAddr r (o.toNat + k) (if j < 2 then j + 1 else j + 2)) = some b →
        t.response[1 + 4 * k + j]? = some b))

/-- After a good frame CIRRD decodes to exactly the frame's samples (rules R108, R109, R191, R203, R205). The addresses of the CIR
memory are the model's (log entry 6). -/
def Obligations.cir_read_after_frame : Prop :=
  ∀ (s t : State) (len : BitVec 10) (rng : Bool) (m : Meas) (region : Byte) (o c : BitVec 16) (r : Fin 3),
    airStep (.frameEnd .good len rng m) s = .next t → PortReady t → region.toNat = r.val →
    o.toNat + c.toNat ≤ Config.cirLen r →
    ∃ u v, exec (.cirrdF region o c) t = .next u ∧ exec (.cirrdR region o c) t = .next v ∧
      (cirDecodeFull (u.response.drop 1)).map (fun p => (p.1.toInt, p.2.toInt)) =
        (((samplesOf m r).drop o.toNat).take c.toNat).map (fun x => (x.re.toInt, x.im.toInt)) ∧
      (cirDecodeReduced (v.response.drop 1)).map (fun p => (p.1.toInt, p.2.toInt)) =
        (((samplesOf m r).drop o.toNat).take c.toNat).map (fun x => (x.re.toInt / 256, x.im.toInt / 256))

/-- Chunking has no effect: two adjacent CIRRDs give the octets of the whole read, in both precisions (rules R77, R109, R110). The
addresses of the CIR memory are the model's (log entry 6). -/
def Obligations.cir_chunks_join : Prop :=
  ∀ (s : State) (region : Byte) (r : Fin 3) (o a b : BitVec 16), PortReady s → region.toNat = r.val →
    o.toNat + a.toNat + b.toNat ≤ Config.cirLen r →
    ((∀ k j, k < a.toNat + b.toNat → j < 6 → (Memory.read s.cir (cirAddr r (o.toNat + k) j)).isSome = true) →
      ∃ t u v, exec (.cirrdF region o (a + b)) s = .next t ∧ exec (.cirrdF region o a) s = .next u ∧
        exec (.cirrdF region (o + a) b) u = .next v ∧
        t.response.drop 1 = u.response.drop 1 ++ v.response.drop 1) ∧
    ((∀ k j, k < a.toNat + b.toNat → (j = 1 ∨ j = 2 ∨ j = 4 ∨ j = 5) →
        (Memory.read s.cir (cirAddr r (o.toNat + k) j)).isSome = true) →
      ∃ t u v, exec (.cirrdR region o (a + b)) s = .next t ∧ exec (.cirrdR region o a) s = .next u ∧
        exec (.cirrdR region (o + a) b) u = .next v ∧
        t.response.drop 1 = u.response.drop 1 ++ v.response.drop 1)

/-- WR16 CMD, 0 with a command's word is that command (rules R85, R114). -/
def Obligations.command_word_runs : Prop :=
  ∀ (w : BitVec 16) (i : Instr) (s : State), decodeCommand w = some i → exec (.wr16 cmdId 0 2 w) s = exec i s

/-- Every illegal or inadmissible command raises CmdErr and changes nothing else (rule R91). -/
def Obligations.inadmissible_is_cmderr : Prop :=
  (∀ (i : Instr) (s : State), isCommand i = true → PortReady s → crcGood s = true →
    (s.cal.cfgUndef = false ∨ i = .softreset) → admitted i s = false →
    exec i s = .next { s with response := [], cmdResult := 0xFF, sysStatus := s.sysStatus ||| 0x00180000 }) ∧
  (∀ (w : BitVec 16) (s : State), decodeCommand w = none → PortReady s → crcGood s = true →
    (s.cal.cfgUndef = false ∨ opOf w = 9) →
    exec (.wr16 cmdId 0 2 w) s =
      .next { s with response := [], cmdResult := 0xFF, sysStatus := s.sysStatus ||| 0x00180000 })

/-- After a calibration failure every command word with another OP than SOFTRESET is refused; a word with a bad CRC always is
(rules R90, R112, R235). That the CRC is looked at before CFG_UNDEF is the model's order (log entry 20). -/
def Obligations.commands_refused : Prop :=
  (∀ (i : Instr) (s : State), isCommand i = true → PortReady s →
    (crcGood s = true → s.cal.cfgUndef = true → i ≠ .softreset → exec i s = .refused .cfgUndef) ∧
    (crcGood s = false → exec i s = .refused .commandBadCrc)) ∧
  (∀ (w : BitVec 16) (s : State), decodeCommand w = none → PortReady s →
    (crcGood s = true → s.cal.cfgUndef = true → opOf w ≠ 9 → exec (.wr16 cmdId 0 2 w) s = .refused .cfgUndef) ∧
    (crcGood s = false → exec (.wr16 cmdId 0 2 w) s = .refused .commandBadCrc))

/-- TRXOFF ends a transmission or reception in any phase, touches no event bit but CMDDONE, and is idempotent (rule R120). -/
def Obligations.trxoff_completes : Prop :=
  ∀ s : State, CommandReady s → admitted .trxoff s = true →
    ∃ t : State, t = { s with
        response := []
        sysStatus := s.sysStatus ||| 0x00100000
        cmdResult := 0x00
        locus := if active s then .idlePll else s.locus
        dl := if active s then Deadlines.none else s.dl
        sniffOn := if active s then true else s.sniffOn
        txW4r := if active s then false else s.txW4r
        phrOk := if active s then false else s.phrOk } ∧
      exec .trxoff s = .next t ∧ exec .trxoff t = .next t

/-- SETSTATE INIT and IDLE_RC unlock the PLL and go there at once; SETSTATE IDLE succeeds in IDLE_PLL and else starts the PLL
calibration (rules R85, R123, R124, R125). -/
def Obligations.setstate_completes : Prop :=
  ∀ s : State, CommandReady s →
    (admitted (.setstate .init) s = true →
      exec (.setstate .init) s = .next { s with
        response := [], sysStatus := s.sysStatus ||| 0x00100000, cmdResult := 0x00, locus := .init
        cal := { s.cal with pllLocked := false } }) ∧
    (admitted (.setstate .idleRc) s = true →
      exec (.setstate .idleRc) s = .next { s with
        response := [], sysStatus := s.sysStatus ||| 0x00100000, cmdResult := 0x00, locus := .idleRc
        cal := { s.cal with pllLocked := false } }) ∧
    (admitted (.setstate .idle) s = true → s.locus = .idlePll →
      exec (.setstate .idle) s = .next { s with
        response := [], sysStatus := s.sysStatus ||| 0x00100000, cmdResult := 0x00 }) ∧
    (admitted (.setstate .idle) s = true → s.locus ≠ .idlePll →
      exec (.setstate .idle) s = .next { s with
        response := [], sysStatus := s.sysStatus &&& 0xFFEFFFFF, locus := .idleRc, calfsm := .pll 0 0 })

/-- SLEEP saves the configuration, drops every deadline and the PLL lock, and goes to sleep (rules R127, R128, R129). -/
def Obligations.sleep_completes : Prop :=
  ∀ (s : State) (deep : Bool), CommandReady s → admitted (.sleep deep) s = true →
    exec (.sleep deep) s = .next { s with
      response := []
      sysStatus := s.sysStatus ||| 0x00100000
      cmdResult := 0x00
      aonSnapshot := s.saved
      dl := Deadlines.none
      calfsm := .none
      cal := { s.cal with pllLocked := false }
      aonElapsed := 0
      locus := if deep then .deepSleep else .sleep }

/-- SOFTRESET gives every register and hidden variable its reset value, from any awake state (rules R51, R133). The always-on
memory takes a free value (log entry 7). -/
def Obligations.softreset_completes : Prop :=
  ∀ s : State, PortReady s → crcGood s = true →
    exec .softreset s = .next { State.reset with
      aonSnapshot := Config.freeSnapshot s.draws
      refused := s.refused
      crcOk := s.crcOk
      agenda := s.agenda
      draws := s.draws + 1 }

/-- CALRX clears what it will redo and starts the receive calibration (rules R85, R226). -/
def Obligations.calrx_starts : Prop :=
  ∀ (s : State) (pgf adc : Bool), CommandReady s → admitted (.calrx pgf adc) s = true →
    exec (.calrx pgf adc) s = .next { s with
      response := []
      sysStatus := s.sysStatus &&& 0xFFEFFFFF
      cal := { s.cal with pgfDone := s.cal.pgfDone && !pgf, adcDone := s.cal.adcDone && !adc }
      calfsm := if pgf then .pgf 0 adc else .adc }

/-- XTALCOMP sets the trim to the clipped linear and quadratic correction and changes nothing else (rules R15, R238). The
correction is the default formula or a chip's alternative, an open parameter (log entry 22). -/
def Obligations.xtalcomp_completes : Prop :=
  ∀ s : State, CommandReady s → admitted .xtalcomp s = true →
    ∃ t : State, exec .xtalcomp s = .next t ∧
      t = { s with
        response := [], sysStatus := s.sysStatus ||| 0x00100000, cmdResult := 0x00, saved.xtalTrim := t.saved.xtalTrim } ∧
      ∃ temp dT corr : Int,
        temp = (if s.saved.xtalRef.extractLsb' 16 8 ≠ Config.tempUnset then (s.saved.xtalRef.extractLsb' 16 8).toInt
          else if s.tempSense.getLsbD 8 then (s.tempSense.extractLsb' 0 8).toInt else 25) ∧
        dT = temp - (s.saved.xtalRef.extractLsb' 8 8).toInt ∧
        corr = (match Config.xtalFn with
          | none => (s.saved.xtalAlpha.toInt * dT + s.saved.xtalBeta.toInt * dT * dT) / 2 ^ 22
          | some f => f s.saved.xtalAlpha s.saved.xtalBeta dT) ∧
        (t.saved.xtalTrim.toNat : Int) =
          max (Config.xtalTrimMin : Int) (min (Config.xtalTrimMax : Int) ((s.saved.xtalRef.extractLsb' 0 8).toNat + corr))

/-- TXPWR applies the requested index or the silicon's maximum, reports it, and changes nothing else (rule R242). -/
def Obligations.txpwr_completes : Prop :=
  (∀ (s : State) (idx : Byte), CommandReady s → admitted (.txpwr idx) s = true →
    ∃ eff : BitVec 8, eff.toNat = min idx.toNat (Config.txpwrMaxIdx Config.chipId (chanOf s.saved.chanCtrl)).toNat ∧
      exec (.txpwr idx) s = .next { s with
        response := []
        sysStatus := s.sysStatus ||| 0x00100000
        cmdResult := 0x00
        saved.txPower := Config.txpwrLut Config.chipId (chanOf s.saved.chanCtrl) eff
        txpwrIdx := eff }) ∧
  (∀ (s : State) (idx : Byte), admitted (.txpwr idx) s = true ↔
    busy s = false ∧ (s.locus = .init ∨ s.locus = .idleRc ∨ s.locus = .idlePll))

/-- DBFREE frees the host's full buffer set and announces a waiting frame; with nothing full it is CmdErr (rules R181, R182). -/
def Obligations.dbfree_completes : Prop :=
  (∀ s : State, CommandReady s → admitted .dbfree s = true →
    (s.db.full s.db.hostBuf = true →
      exec .dbfree s = .next { s with
        response := []
        cmdResult := 0x00
        sysStatus := s.sysStatus ||| 0x00100000 ||| (if s.db.full (!s.db.hostBuf) then 0x000040C0 else 0)
        db := { s.db with hostBuf := !s.db.hostBuf, full0 := s.db.full0 && s.db.hostBuf, full1 := s.db.full1 && !s.db.hostBuf }
        stale0 := s.stale0 || !s.db.hostBuf
        stale1 := s.stale1 || s.db.hostBuf }) ∧
    (s.db.full s.db.hostBuf = false →
      exec .dbfree s = .next { s with response := [], cmdResult := 0xFF, sysStatus := s.sysStatus ||| 0x00180000 })) ∧
  (∀ s : State, PortReady s → crcGood s = true → s.sysStatus.getLsbD 7 = true →
    ∃ t, exec (.wr32 0x03 0 4 0x00000080) s = .next t ∧
      (dbEnOf s.saved.sysCfg = true → dbAutoOf s.saved.sysCfg = true → s.db.full s.db.hostBuf = true →
        t = { s with
          response := []
          sysStatus := (s.sysStatus &&& 0xFFFFFF7F) ||| (if s.db.full (!s.db.hostBuf) then 0x000040C0 else 0)
          db := { s.db with hostBuf := !s.db.hostBuf, full0 := s.db.full0 && s.db.hostBuf, full1 := s.db.full1 && !s.db.hostBuf }
          stale0 := s.stale0 || !s.db.hostBuf
          stale1 := s.stale1 || s.db.hostBuf }) ∧
      ((dbEnOf s.saved.sysCfg = false ∨ dbAutoOf s.saved.sysCfg = false ∨ s.db.full s.db.hostBuf = false) →
        t = { s with response := [], sysStatus := s.sysStatus &&& 0xFFFFFF7F }))

/-- TX IMM starts the preamble at once, or with CCA opens the clear-channel window (rules R141, R147, R152, R166). The bound on
the clear-channel window is the model's reading (log entry 10). -/
def Obligations.tx_immediate : Prop :=
  ∀ (s : State) (w4r : Bool), CommandReady s →
    (admitted (.tx .imm w4r false) s = true →
      exec (.tx .imm w4r false) s = .next { s with
        response := [], sysStatus := s.sysStatus ||| 0x00100000, cmdResult := 0x00, txW4r := w4r, locus := .tx .shr
        dl := { s.dl with rmark := some (s.sysTime + (Config.shrDtu (cfgOf s)).setWidth 40) } }) ∧
    (admitted (.tx .imm w4r true) s = true → s.saved.preToc.toNat * Config.pacDtu (cfgOf s) < 2 ^ 39 →
      exec (.tx .imm w4r true) s = .next { s with
        response := [], sysStatus := s.sysStatus ||| 0x00100000, cmdResult := 0x00, txW4r := w4r, locus := .tx .cca
        dl := { s.dl with
          cca := some (s.sysTime + BitVec.ofNat 40 (s.saved.preToc.toNat * Config.pacDtu (cfgOf s))) } }) ∧
    (admitted (.tx .imm w4r true) s = true → 2 ^ 39 ≤ s.saved.preToc.toNat * Config.pacDtu (cfgOf s) →
      exec (.tx .imm w4r true) s = .refused .intervalTooLong)

/-- A delayed TX is late, starts now, or is armed, by the time its preamble must begin (rules R141, R142, R143, R145). -/
def Obligations.tx_delayed : Prop :=
  ∀ (s : State) (start : Start) (w4r : Bool) (ref S : Time), CommandReady s → admitted (.tx start w4r false) s = true →
    ((start = .dlyAbs ∧ ref = 0) ∨ (start = .dlyRef ∧ ref = s.drefTime) ∨ (start = .dlyRs ∧ ref = s.rxStampLast) ∨
      (start = .dlyTs ∧ ref = s.txStamp)) →
    S = ref + s.dxTime - (Config.shrDtu (cfgOf s)).setWidth 40 →
    (2 ^ 39 ≤ (S - s.sysTime).toNat →
      exec (.tx start w4r false) s = .next { s with
        response := [], sysStatus := s.sysStatus ||| 0x00108000, cmdResult := 0xFF }) ∧
    (S = s.sysTime →
      exec (.tx start w4r false) s = .next { s with
        response := [], sysStatus := s.sysStatus ||| 0x00100000, cmdResult := 0x00, txW4r := w4r, locus := .tx .shr
        dl := { s.dl with rmark := some (s.sysTime + (Config.shrDtu (cfgOf s)).setWidth 40) } }) ∧
    (S ≠ s.sysTime → (S - s.sysTime).toNat < 2 ^ 39 →
      exec (.tx start w4r false) s = .next { s with
        response := [], sysStatus := s.sysStatus ||| 0x00100000, cmdResult := 0x00, txW4r := w4r, locus := .tx .wait
        dl := { s.dl with start := some S } })

/-- Lateness is half a turn of the 40-bit clock: a start d ahead is late exactly when d mod 2^40 >= 2^39 (rules R15, R144). -/
def Obligations.late_is_half_a_turn : Prop :=
  ∀ S now : Time,
    (late S now = true ↔ (2 : Int) ^ 39 ≤ ((S.toNat : Int) - (now.toNat : Int)) % 2 ^ 40) ∧
    late now now = false ∧
    (∀ d : Nat, late (now + BitVec.ofNat 40 d) now = decide (2 ^ 39 ≤ d % 2 ^ 40)) ∧
    (∀ d : Nat, 0 < d → d ≤ 2 ^ 39 → late (now - BitVec.ofNat 40 d) now = true)

/-- A transmission proceeds at its deadlines: armed start and clear channel enter SHR, the RMARKER stamps the frame (rules R146,
R147, R149, R152). -/
def Obligations.tx_steps : Prop :=
  ∀ s : State, s.refused = false →
    (s.locus = .tx .wait → s.dl.start = some s.sysTime →
      step s = .next { s with
        locus := .tx .shr
        dl := { s.dl with start := none, rmark := some (s.sysTime + (Config.shrDtu (cfgOf s)).setWidth 40) } }) ∧
    (s.locus = .tx .cca → s.dl.cca = some s.sysTime →
      step s = .next { s with
        locus := .tx .shr
        dl := { s.dl with cca := none, rmark := some (s.sysTime + (Config.shrDtu (cfgOf s)).setWidth 40) } }) ∧
    (s.locus = .tx .shr → s.dl.rmark = some s.sysTime →
      step s = .next { s with
        txRawst := s.sysTime
        txStamp := s.sysTime + s.saved.txAntd.setWidth 40
        locus := .tx .data
        dl := { s.dl with
          rmark := none
          txend := some (s.sysTime + (Config.dataDtu (cfgOf s) (s.saved.txFctrl.extractLsb' 0 10)).setWidth 40) } })

/-- The end of a frame sets TXFRS and goes to the receiver, to sleep or to idle (rules R132, R150, R151, R165, R166, R179). -/
def Obligations.tx_end : Prop :=
  ∀ s b : State, s.refused = false → s.locus = .tx .data → s.dl.txend = some s.sysTime →
    b = { s with sysStatus := s.sysStatus ||| 0x00000002, dl := { s.dl with txend := none } } →
    (s.txW4r = true → overrun s = true →
      step s = .next { b with txW4r := false, sysStatus := b.sysStatus ||| 0x00020000, locus := .idlePll }) ∧
    (s.txW4r = true → overrun s = false → huntFits s → step s = .next (hunting { b with txW4r := false })) ∧
    (s.txW4r = true → overrun s = false → ¬huntFits s → step s = .refused .intervalTooLong) ∧
    (s.txW4r = false → atxSlpOf s.aonCfg = true → sleepEnOf s.aonCfg = true →
      step s = .next { b with
        aonSnapshot := b.saved, dl := Deadlines.none, calfsm := .none, cal := { b.cal with pllLocked := false }
        aonElapsed := 0, locus := if deepOf s.aonCfg then .deepSleep else .sleep }) ∧
    (s.txW4r = false → (atxSlpOf s.aonCfg = false ∨ sleepEnOf s.aonCfg = false) → step s = .next { b with locus := .idlePll })

/-- A delayed TX that is not late is stamped exactly at its target: TX_RAWST = T and TX_STAMP = T + TX_ANTD (rules R142, R143,
R146, R147, R149, R153). The agenda is the model's own device (log entry 1). -/
def Obligations.delayed_tx_timestamp : Prop :=
  ∀ (s t : State) (start : Start) (w4r : Bool) (T S : Time) (rest : List Action), s.refused = false → CommandReady s →
    admitted (.tx start w4r false) s = true → start ≠ .imm → T = refTime start s + s.dxTime →
    S = T - (Config.shrDtu (cfgOf s)).setWidth 40 → (S - s.sysTime).toNat < 2 ^ 39 →
    s.agenda = List.replicate ((S - s.sysTime).toNat + (Config.shrDtu (cfgOf s)).toNat) Action.tick ++ rest →
    exec (.tx start w4r false) s = .next t →
    ∃ (n : Nat) (u : State), Host.Core.run Sys2Proof.core n t = .next u ∧ u.locus = .tx .data ∧ u.sysTime = T ∧
      u.txRawst = T ∧ u.txStamp = T + s.saved.txAntd.setWidth 40 ∧ u.agenda = rest

/-- RX IMM turns the receiver on with its timeouts armed from now, or reports an overrun (rules R161, R165, R166, R179). -/
def Obligations.rx_immediate : Prop :=
  ∀ (s : State) (k : Bool), CommandReady s → admitted (.rx .imm k) s = true →
    (overrun s = true →
      exec (.rx .imm k) s = .next { s with
        response := [], sysStatus := s.sysStatus ||| 0x00120000, cmdResult := 0xFF, locus := .idlePll }) ∧
    (overrun s = false → huntFits s →
      exec (.rx .imm k) s = .next (hunting { s with
        response := [], sysStatus := s.sysStatus ||| 0x00100000, cmdResult := 0x00 })) ∧
    (overrun s = false → ¬huntFits s → exec (.rx .imm k) s = .refused .intervalTooLong)

/-- A delayed RX is late (in two ways), overruns, starts now, or is armed (rules R142, R161, R162, R164, R166, R179). -/
def Obligations.rx_delayed : Prop :=
  ∀ (s : State) (start : Start) (k : Bool) (ref T : Time), CommandReady s → admitted (.rx start k) s = true →
    ((start = .dlyAbs ∧ ref = 0) ∨ (start = .dlyRef ∧ ref = s.drefTime) ∨ (start = .dlyRs ∧ ref = s.rxStampLast) ∨
      (start = .dlyTs ∧ ref = s.txStamp)) →
    T = ref + s.dxTime →
    (2 ^ 39 ≤ (T - s.sysTime).toNat → k = true →
      exec (.rx start k) s = .next { s with
        response := [], sysStatus := s.sysStatus ||| 0x00108000, cmdResult := 0xFF }) ∧
    (2 ^ 39 ≤ (T - s.sysTime).toNat → k = false → overrun s = true →
      exec (.rx start k) s = .next { s with
        response := [], sysStatus := s.sysStatus ||| 0x00128000, cmdResult := 0xFF, locus := .idlePll }) ∧
    (2 ^ 39 ≤ (T - s.sysTime).toNat → k = false → overrun s = false → huntFits s →
      exec (.rx start k) s = .next (hunting { s with
        response := [], sysStatus := s.sysStatus ||| 0x00108000, cmdResult := 0xFF })) ∧
    (2 ^ 39 ≤ (T - s.sysTime).toNat → k = false → overrun s = false → ¬huntFits s →
      exec (.rx start k) s = .refused .intervalTooLong) ∧
    ((T - s.sysTime).toNat < 2 ^ 39 → overrun s = true →
      exec (.rx start k) s = .next { s with
        response := [], sysStatus := s.sysStatus ||| 0x00120000, cmdResult := 0xFF }) ∧
    (T = s.sysTime → overrun s = false → huntFits s →
      exec (.rx start k) s = .next (hunting { s with
        response := [], sysStatus := s.sysStatus ||| 0x00100000, cmdResult := 0x00 })) ∧
    (T = s.sysTime → overrun s = false → ¬huntFits s → exec (.rx start k) s = .refused .intervalTooLong) ∧
    (T ≠ s.sysTime → (T - s.sysTime).toNat < 2 ^ 39 → overrun s = false →
      exec (.rx start k) s = .next { s with
        response := [], sysStatus := s.sysStatus ||| 0x00100000, cmdResult := 0x00, locus := .rx .wait
        dl := { s.dl with start := some T } })

/-- The receiver's deadlines: an armed start, the SNIFF switch, and the timeouts, which end the attempt once in IDLE_PLL (rules
R163, R166, R172, R173, R177, R265). -/
def Obligations.rx_timed_steps : Prop :=
  ∀ s : State, s.refused = false →
    (s.locus = .rx .wait → s.dl.start = some s.sysTime → huntFits s →
      step s = .next (hunting { s with dl := { s.dl with start := none } })) ∧
    (s.locus = .rx .wait → s.dl.start = some s.sysTime → ¬huntFits s → step s = .refused .intervalTooLong) ∧
    (s.locus = .rx .hunt → s.dl.sniff = some s.sysTime → s.dl.fwto ≠ some s.sysTime → s.dl.pre ≠ some s.sysTime →
      s.sniffOn = true → sniffOffOf s.saved.rxSniff * Config.sniffOffUnit < 2 ^ 39 →
      step s = .next { s with
        sniffOn := false
        dl := { s.dl with
          sniff := some (s.sysTime + BitVec.ofNat 40 (sniffOffOf s.saved.rxSniff * Config.sniffOffUnit)) } }) ∧
    (s.locus = .rx .hunt → s.dl.sniff = some s.sysTime → s.dl.fwto ≠ some s.sysTime → s.dl.pre ≠ some s.sysTime →
      s.sniffOn = false → (sniffOnOf s.saved.rxSniff + 1) * Config.pacDtu (cfgOf s) < 2 ^ 39 →
      step s = .next { s with
        sniffOn := true
        dl := { s.dl with
          sniff := some (s.sysTime + BitVec.ofNat 40 ((sniffOnOf s.saved.rxSniff + 1) * Config.pacDtu (cfgOf s))) } }) ∧
    (s.locus = .rx .hunt → s.dl.sniff = some s.sysTime → s.dl.fwto ≠ some s.sysTime → s.dl.pre ≠ some s.sysTime →
      s.sniffOn = true → 2 ^ 39 ≤ sniffOffOf s.saved.rxSniff * Config.sniffOffUnit →
      step s = .refused .intervalTooLong) ∧
    (s.locus = .rx .hunt → s.dl.sniff = some s.sysTime → s.dl.fwto ≠ some s.sysTime → s.dl.pre ≠ some s.sysTime →
      s.sniffOn = false → 2 ^ 39 ≤ (sniffOnOf s.saved.rxSniff + 1) * Config.pacDtu (cfgOf s) →
      step s = .refused .intervalTooLong) ∧
    (∀ (p : RxPhase) (f q d : Bool), s.locus = .rx p → p ≠ .wait → (f = true ↔ s.dl.fwto = some s.sysTime) →
      (q = true ↔ p = .hunt ∧ s.dl.pre = some s.sysTime) → (d = true ↔ p = .sfdWait ∧ s.dl.sfd = some s.sysTime) →
      (f = true ∨ q = true ∨ d = true) →
      step s = .next { stopped s with
        sysStatus := s.sysStatus ||| (if f then 0x00000400 else 0) ||| (if q then 0x00000800 else 0) |||
          (if d then 0x00001000 else 0)
        locus := .idlePll })

/-- PreambleDetect, SfdDetect and a good PHY header advance the reception; a preamble in the CCA window cancels the transmission
(rules R152, R166, R167, R168, R169). -/
def Obligations.air_progress : Prop :=
  ∀ s : State,
    (s.locus = .tx .cca →
      airStep .preambleDetect s = .next { s with
        sysStatus := s.sysStatus ||| 0x00010000, dl := { s.dl with cca := none }, txW4r := false, locus := .idlePll }) ∧
    (s.locus = .rx .hunt → s.sniffOn = true → s.saved.sfdToc.toNat * Config.symDtu (cfgOf s) < 2 ^ 39 →
      airStep .preambleDetect s = .next { s with
        sysStatus := s.sysStatus ||| 0x00000004
        dl := { s.dl with
          pre := none, sniff := none, sfd := timeoutFrom s.sysTime s.saved.sfdToc.toNat (Config.symDtu (cfgOf s)) }
        sniffOn := true
        locus := .rx .sfdWait }) ∧
    (s.locus = .rx .hunt → s.sniffOn = true → 2 ^ 39 ≤ s.saved.sfdToc.toNat * Config.symDtu (cfgOf s) →
      airStep .preambleDetect s = .refused .intervalTooLong) ∧
    (s.locus = .rx .sfdWait →
      airStep .sfdDetect s = .next { s with
        sysStatus := s.sysStatus ||| 0x00000008, dl := { s.dl with sfd := none }, rxRaw := s.sysTime, locus := .rx .data }) ∧
    (s.locus = .rx .data → s.phrOk = false →
      airStep (.phrResult true) s = .next { s with sysStatus := s.sysStatus ||| 0x00000010, phrOk := true })

/-- A receive error sets its bits, writes no result, and ends the attempt in IDLE_PLL or, with RX_AUTO_REEN, hunts again (rules
R169, R170, R171, R175, R176). -/
def Obligations.air_errors : Prop :=
  ∀ (s : State) (e : AirEvent) (m : BitVec 32), airErrorBits e = some m → airAdmitted e s = true →
    (rxAutoReenOf s.saved.sysCfg = false →
      airStep e s = .next { stopped s with sysStatus := s.sysStatus ||| m, locus := .idlePll }) ∧
    (rxAutoReenOf s.saved.sysCfg = true → huntFits s →
      airStep e s = .next (hunting { stopped s with sysStatus := s.sysStatus ||| m })) ∧
    (rxAutoReenOf s.saved.sysCfg = true → ¬huntFits s → airStep e s = .refused .intervalTooLong)

/-- An air event has a step exactly in the phases that admit it (rules R152, R167, R168, R169, R170, R171, R185). -/
def Obligations.air_only_where_admitted : Prop :=
  ∀ (e : AirEvent) (s : State), airStep e s = .fault .airNotAdmitted ↔ airAdmitted e s = false

/-- A good frame writes its whole result into one buffer set and ends in sleep, a new hunt, or idle (rules R170, R174, R180, R191,
R192, R132, R176). The addresses of the CIR memory are the model's (log entry 6), and pdoaReg may be a chip's alternative formula
(log entry 22). -/
def Obligations.good_frame : Prop :=
  ∀ (s g : State) (len : BitVec 10) (rng n : Bool) (m : Meas) (b : BufSet), s.locus = .rx .data → s.phrOk = true →
    (pdoaModeOf s.saved.sysCfg = 2 → airStep (.frameEnd .good len rng m) s = .refused .pdoaModeReserved) ∧
    (pdoaModeOf s.saved.sysCfg ≠ 2 → n = (dbEnOf s.saved.sysCfg && s.db.hwBuf) →
      b.rxFinfo.toNat = len.toNat + (if rng then 1024 else 0) → b.rxRawst = s.rxRaw →
      b.stampIp = m.toaIp - s.saved.rxAntd.setWidth 40 → b.stampSts1 = m.toaSts1 - s.saved.rxAntd.setWidth 40 →
      b.stampSts2 = m.toaSts2 - s.saved.rxAntd.setWidth 40 → b.poaIp = m.poaIp.setWidth 16 → b.poaSts1 = m.poaSts1.setWidth 16 →
      b.poaSts2 = m.poaSts2.setWidth 16 → b.rxTdoa = tdoaReg (pdoaModeOf s.saved.sysCfg) m →
      b.rxPdoa = pdoaReg (pdoaModeOf s.saved.sysCfg) (s.saved.ciaAdjust.extractLsb' 0 14) m → b.stsQual = m.stsQual →
      b.stsSts = m.stsSts → b.ipDiag = m.diagIp → b.sts1Diag = m.diagSts1 → b.sts2Diag = m.diagSts2 →
      b.dgcDcsn = m.dgc.setWidth 8 →
      g = { stopped s with
        sysStatus := s.sysStatus ||| 0x000040C0
        cir := cirCells m
        rxStampLast := b.stampIp
        buf0 := if n then s.buf0 else b
        buf1 := if n then b else s.buf1
        stale0 := s.stale0 && n
        stale1 := s.stale1 && !n
        db := if dbEnOf s.saved.sysCfg then
            { hwBuf := !n, hostBuf := s.db.hostBuf, full0 := s.db.full0 || !n, full1 := s.db.full1 || n } else s.db } →
      (arxSlpOf s.aonCfg = true → sleepEnOf s.aonCfg = true →
        airStep (.frameEnd .good len rng m) s = .next { g with
          aonSnapshot := g.saved, dl := Deadlines.none, calfsm := .none, cal := { g.cal with pllLocked := false }
          aonElapsed := 0, locus := if deepOf s.aonCfg then .deepSleep else .sleep }) ∧
      ((arxSlpOf s.aonCfg = false ∨ sleepEnOf s.aonCfg = false) →
        ((dbEnOf s.saved.sysCfg = false ∨ rxAutoReenOf s.saved.sysCfg = false) →
          airStep (.frameEnd .good len rng m) s = .next { g with locus := .idlePll }) ∧
        (dbEnOf s.saved.sysCfg = true → rxAutoReenOf s.saved.sysCfg = true → g.db.full (!n) = true →
          airStep (.frameEnd .good len rng m) s =
            .next { g with sysStatus := g.sysStatus ||| 0x00020000, locus := .idlePll }) ∧
        (dbEnOf s.saved.sysCfg = true → rxAutoReenOf s.saved.sysCfg = true → g.db.full (!n) = false → huntFits s →
          airStep (.frameEnd .good len rng m) s = .next (hunting g)) ∧
        (dbEnOf s.saved.sysCfg = true → rxAutoReenOf s.saved.sysCfg = true → g.db.full (!n) = false → ¬huntFits s →
          airStep (.frameEnd .good len rng m) s = .refused .intervalTooLong)))

/-- The host's reading of RX_TDOA is the exact integer difference of the two arrival times, the top 7 bits zero (rules R15, R194,
R195, R207). -/
def Obligations.tdoa_exact : Prop :=
  ∀ (mode : BitVec 2) (m : Meas),
    (∀ (ta tb : Time) (pp : BitVec 14 × BitVec 14), pairOf mode m = some ((ta, tb), pp) →
      tdoaValue ((List.range 6).map fun k => (tdoaReg mode m).extractLsb' (8 * k) 8) = (tb.toNat : Int) - ta.toNat) ∧
    (mode = 0 → tdoaReg mode m = 0) ∧ tdoaReg mode m >>> 41 = 0

/-- The PDOA is the phase difference plus the offset wrapped into one turn, between -6434 and 6433, the top 2 bits zero (rules
R15, R196, R197, R207). The formula is the default one or a chip's alternative, an open parameter (log entry 22). -/
def Obligations.pdoa_wrapped : Prop :=
  ∀ (mode : BitVec 2) (adj : BitVec 14) (m : Meas),
    (∀ (tt : Time × Time) (pa pb : BitVec 14), pairOf mode m = some (tt, (pa, pb)) →
      pdoaValue (pdoaReg mode adj m) =
        (match Config.pdoaFn with
        | none => (pb.toInt - pa.toInt + adj.toNat + 6434) % 12868 - 6434
        | some f => ((f pa pb adj).val : Int) - 6434)) ∧
    (mode = 0 → pdoaReg mode adj m = 0) ∧
    -6434 ≤ pdoaValue (pdoaReg mode adj m) ∧ pdoaValue (pdoaReg mode adj m) ≤ 6433 ∧
    pdoaReg mode adj m >>> 14 = 0

/-- The PLL calibration keeps its budget: lock at any of 100 polls succeeds, 100 false polls and no fewer fail (rules R222, R223,
R224, R225). -/
def Obligations.pll_budget : Prop :=
  ∀ (s : State) (ds : List CalDraw), s.calfsm = .pll 0 0 → (∀ d ∈ ds, d.lock = false) →
    (ds.length < 100 → calRun ds s = .next { s with calfsm := .pll (ds.length / 50) (ds.length % 50) }) ∧
    (ds.length < 100 → ∀ d : CalDraw, d.lock = true →
      calRun (ds ++ [d]) s = .next { s with
        calfsm := .none
        locus := .idlePll
        sysStatus := s.sysStatus ||| 0x00100001
        cmdResult := 0x00
        cal := { s.cal with pllLocked := true }
        saved.pllCc :=
          if chanOf s.saved.chanCtrl then d.cc ++ s.saved.pllCc.extractLsb' 0 16 else s.saved.pllCc.extractLsb' 16 16 ++ d.cc }) ∧
    (ds.length = 100 →
      calRun ds s = .next { s with
        calfsm := .none
        sysStatus := s.sysStatus ||| 0x00100000
        cmdResult := 0xFE
        cal := { s.cal with pllLocked := false, cfgUndef := true } })

/-- The receive calibration: three PGF attempts, then the resistors (I before Q), then the ADC, each failure with its own code
(rules R227, R228, R229, R230, R231, R232). RX_CAL_INVALID is an open parameter of the model (log entry 9). -/
def Obligations.rx_calibration_outcomes : Prop :=
  (∀ (s : State) (adc : Bool) (ds : List CalDraw), s.calfsm = .pgf 0 adc → (∀ d ∈ ds, d.ok = false) →
    (ds.length = 3 → calRun ds s = .next { s with
      calfsm := .none, sysStatus := s.sysStatus ||| 0x00100000, cmdResult := 0xFD
      cal := { s.cal with pgfDone := false, adcDone := false, cfgUndef := true } }) ∧
    (∀ d r : CalDraw, ds.length ≤ 2 → d.ok = true →
      (r.resi = Config.rxCalInvalid → calRun (ds ++ [d, r]) s = .next { s with
        calfsm := .none, sysStatus := s.sysStatus ||| 0x00100000, cmdResult := 0xFC
        rxCalResi := r.resi.setWidth 32, rxCalResq := r.resq.setWidth 32
        cal := { s.cal with pgfDone := false, adcDone := false, cfgUndef := true } }) ∧
      (r.resi ≠ Config.rxCalInvalid → r.resq = Config.rxCalInvalid → calRun (ds ++ [d, r]) s = .next { s with
        calfsm := .none, sysStatus := s.sysStatus ||| 0x00100000, cmdResult := 0xFB
        rxCalResi := r.resi.setWidth 32, rxCalResq := r.resq.setWidth 32
        cal := { s.cal with pgfDone := false, adcDone := false, cfgUndef := true } }) ∧
      (r.resi ≠ Config.rxCalInvalid → r.resq ≠ Config.rxCalInvalid → calRun (ds ++ [d, r]) s = .next { s with
        calfsm := if adc then .adc else .none
        sysStatus := s.sysStatus ||| (if adc then 0 else 0x00100000)
        cmdResult := if adc then s.cmdResult else 0x00
        rxCalResi := r.resi.setWidth 32, rxCalResq := r.resq.setWidth 32
        cal := { s.cal with pgfDone := true } }))) ∧
  (∀ (s : State) (d : CalDraw), s.calfsm = .adc →
    (d.ok = true → calStep d s = .next { s with
      calfsm := .none, sysStatus := s.sysStatus ||| 0x00100000, cmdResult := 0x00, adcThresh := d.thr
      cal := { s.cal with adcDone := true } }) ∧
    (d.ok = false → calStep d s = .next { s with
      calfsm := .none, sysStatus := s.sysStatus ||| 0x00100000, cmdResult := 0xFA
      cal := { s.cal with pgfDone := false, adcDone := false, cfgUndef := true } }))

/-- Every Cal step ends the calibration or strictly advances it: at most 100 steps for the PLL, 5 for CALRX (rules R48, R221). -/
def Obligations.calibration_is_bounded : Prop :=
  (∀ (d : CalDraw) (s : State), s.calfsm = .none → calStep d s = .fault .calIdle) ∧
  (∀ (d : CalDraw) (s : State), calFits s.locus s.calfsm = true → s.calfsm ≠ .none →
    ∃ t, calStep d s = .next t ∧ calLeft t.calfsm < calLeft s.calfsm ∧ calLeft s.calfsm ≤ 100 ∧
      ((∀ l p, s.calfsm ≠ .pll l p) → calLeft s.calfsm ≤ 5)) ∧
  (∀ (l : Locus) (c : CalFsm), calFits l c = true → (calLeft c = 0 ↔ c = .none)) ∧
  calLeft (.pll 0 0) = 100 ∧ (∀ adc, calLeft (.pgf 0 adc) = 5) ∧ calLeft .adc = 1

/-- A sleeping block wakes by an enabled pin, the sleep counter or HardReset, with what each keeps; nothing else wakes it (rules
R130, R131, R280, R282). A pin event while awake changes nothing (log entry 15). After HardReset the always-on memory takes a free
value (log entry 7); the agenda is the model's own device (log entry 1). -/
def Obligations.wake_triggers : Prop :=
  (∀ (s : State) (rest : List Action), s.refused = false → asleep s = true → due s = none →
    (s.agenda = .wakePin :: rest →
      step s = .next (if s.aonCfg.getLsbD 2 then woken { s with agenda := rest } else { s with agenda := rest })) ∧
    (s.agenda = .wakeCs :: rest →
      step s = .next (if s.aonCfg.getLsbD 3 then woken { s with agenda := rest } else { s with agenda := rest }))) ∧
  (∀ s : State, s.refused = false → s.locus = .sleep → s.aonCfg.getLsbD 7 = true → s.sleepCnt ≠ 0 →
    s.aonElapsed = s.sleepCnt.toNat * Config.lpUnit → step s = .next (woken s)) ∧
  (∀ (s : State) (rest : List Action), s.refused = false → due s = none → s.agenda = .hardReset :: rest →
    step s = .next { State.reset with
      aonSnapshot := Config.freeSnapshot s.draws
      refused := s.refused
      crcOk := s.crcOk
      agenda := rest
      draws := s.draws + 1 }) ∧
  (∀ s t : State, SeqInv s → asleep s = true → step s = .next t →
    asleep t = true ∨
    (s.locus = .sleep ∧ s.aonCfg.getLsbD 7 = true ∧ s.sleepCnt ≠ 0 ∧ s.aonElapsed = s.sleepCnt.toNat * Config.lpUnit) ∨
    (due s = none ∧ (nextAction s = .hardReset ∨ (nextAction s = .wakePin ∧ s.aonCfg.getLsbD 2 = true) ∨
      (nextAction s = .wakeCs ∧ s.aonCfg.getLsbD 3 = true)))) ∧
  (∀ s : State, asleep s = false → perform .wakePin s = .next s ∧ perform .wakeCs s = .next s)

/-- Tick advances device time while awake and the always-on counter always; TempSample writes TEMP_SENSE; IRQ is level-sensitive
(rules R44, R240, R256). -/
def Obligations.clock_sensor_irq : Prop :=
  (∀ s : State,
    (asleep s = false → perform .tick s = .next { s with sysTime := s.sysTime + 1, aonElapsed := s.aonElapsed + 1 }) ∧
    (asleep s = true → perform .tick s = .next { s with aonElapsed := s.aonElapsed + 1 })) ∧
  (∀ (s : State) (t : BitVec 8),
    (asleep s = false → perform (.tempSample t) s = .next { s with tempSense := 0x0100#16 ||| t.setWidth 16 }) ∧
    (asleep s = true → perform (.tempSample t) s = .fault .envAsleep)) ∧
  (∀ s : State, irq s = true ↔
    (s.locus ≠ .sleep ∧ s.locus ≠ .deepSleep ∧ ∃ k, k < 32 ∧ s.sysStatus.getLsbD k = true ∧ s.saved.sysEnable.getLsbD k = true))

/-- The state after reset meets the sequencer's, the double buffer's and the registers' invariants (rules R24, R47, R48, R183,
R207, R281). -/
def Obligations.reset_meets_invariants : Prop :=
  SeqInv State.reset ∧ DbInv State.reset ∧ RegInv State.reset

/-- Every step keeps the sequencer's invariant (rules R24, R47, R48, R225, R235, R265). -/
def Obligations.step_keeps_seq_inv : Prop :=
  ∀ s t : State, SeqInv s → step s = .next t → SeqInv t

/-- Every step keeps the double buffer's invariant (rules R38, R178, R179, R180, R182, R183). -/
def Obligations.step_keeps_db_inv : Prop :=
  ∀ s t : State, SeqInv s → DbInv s → step s = .next t → DbInv t

/-- Every step keeps reserved bits zero, result codes legal, the PDOA in range and the CIR memory canonical (rules R25, R39, R40,
R43, R50, R207, R240, R251). The addresses of the CIR memory are the model's (log entry 6). -/
def Obligations.step_keeps_reg_inv : Prop :=
  ∀ s t : State, RegInv s → step s = .next t → RegInv t

/-- OPSTATE changes only by the transitions of rule R126 (rule R126). -/
def Obligations.opstate_transitions : Prop :=
  ∀ s t : State, SeqInv s → step s = .next t → mayGo (kindOf s.locus) (kindOf t.locus) = true
end

