-- ==== Sys2Proof/Laws/Code.lean ====
section
/-! SUPPORT. The pieces the decoder and the encoder are made of undo each other. -/

namespace Sys2Proof

@[simp] theorem le16_octets16 (v : BitVec 16) : le16 (v.extractLsb' 0 8) (v.extractLsb' 8 8) = v := by
  unfold le16
  apply BitVec.eq_of_getLsbD_eq
  intro i hi
  rw [BitVec.getLsbD_append]
  rcases Nat.lt_or_ge i 8 with h | h
  · simp [h]
  · simp [show ¬ i < 8 by omega, show i - 8 < 8 by omega, show 8 + (i - 8) = i by omega]

@[simp] theorem le32_octets32 (v : BitVec 32) :
    le32 (v.extractLsb' 0 8) (v.extractLsb' 8 8) (v.extractLsb' 16 8) (v.extractLsb' 24 8) = v := by
  unfold le32
  apply BitVec.eq_of_getLsbD_eq
  intro i hi
  rw [BitVec.getLsbD_append, BitVec.getLsbD_append, BitVec.getLsbD_append]
  rcases Nat.lt_or_ge i 8 with h | h
  · simp [h]
  rcases Nat.lt_or_ge i 16 with h' | h'
  · simp [show ¬ i < 8 by omega, show i - 8 < 8 by omega, show 8 + (i - 8) = i by omega]
  rcases Nat.lt_or_ge i 24 with h'' | h''
  · simp [show ¬ i < 8 by omega, show ¬ i - 8 < 8 by omega, show i - 8 - 8 < 8 by omega, show 16 + (i - 8 - 8) = i by omega]
  · simp [show ¬ i < 8 by omega, show ¬ i - 8 < 8 by omega, show ¬ i - 8 - 8 < 8 by omega,
      show i - 8 - 8 - 8 < 8 by omega, show 24 + (i - 8 - 8 - 8) = i by omega]

@[simp] theorem takeOctets_append (p r : List Byte) : takeOctets p.length (p ++ r) = some (p, r) := by
  induction p with
  | nil => rfl
  | cons b p ih => simp [takeOctets, ih]

/-- What `takeOctets` answers are the first octets and the rest. -/
theorem takeOctets_eq_some {k : Nat} {r p q : List Byte} (h : takeOctets k r = some (p, q)) : p.length = k ∧ p ++ q = r := by
  induction k generalizing r p with
  | zero => simp [takeOctets] at h; simp [h]
  | succ k ih =>
    cases r with
    | nil => simp [takeOctets] at h
    | cons b r =>
      simp only [takeOctets] at h
      split at h
      · rename_i p' q' hk
        cases h
        have := ih hk
        simp [this]
      · cases h

@[simp] theorem startOfBits_startBits (x : Start) : startOfBits (startBits x) = x := by cases x <;> rfl

@[simp] theorem targetOfBits_targetBits (x : Target) : targetOfBits (targetBits x) = x := by cases x <;> rfl

@[simp] theorem startBits_startOfBits (b : BitVec 3) : startBits (startOfBits b) = b := by revert b; decide

@[simp] theorem targetBits_targetOfBits (b : BitVec 2) : targetBits (targetOfBits b) = b := by revert b; decide

end Sys2Proof
end

