-- ==== Sys2Proof/Laws/Config.lean ====
section
/-! SUPPORT. The constraints of rule R7 that the parameters meet by construction. -/

namespace Sys2Proof.Config

/-- `KNOWN_IDS` has exactly four members (rule R7). -/
@[simp] theorem knownIds_length : knownIds.length = 4 := by
  unfold knownIds
  split <;> rfl

/-- The members of `KNOWN_IDS` differ (rule R7). -/
theorem knownIds_nodup : knownIds.Nodup := by
  unfold knownIds
  split
  · assumption
  · decide

/-- `KNOWN_IDS` contains the constant the source gives (rule R7). -/
theorem documented_mem_knownIds : 0xDECA0314#32 ∈ knownIds := by
  unfold knownIds
  split <;> exact List.mem_cons_self

/-- `CHIP_ID` is a member of `KNOWN_IDS` (rule R7). -/
theorem chipId_mem_knownIds : chipId ∈ knownIds := by
  have h : chipSel.val < knownIds.length := by simp
  simp only [chipId, List.getD_eq_getElem _ _ h, List.getElem_mem]

/-- `CIR_LEN[r]` is between 1 and 1016 (rule R7). -/
theorem cirLen_bounds (r : Fin 3) : 1 ≤ cirLen r ∧ cirLen r ≤ cirLenMax := by
  simp only [cirLen, cirLenMax]
  omega

/-- `XTAL_TRIM_MIN <= XTAL_TRIM_DEFAULT <= XTAL_TRIM_MAX` (spec/92_eei_decisions.md, Open parameters). -/
theorem xtalTrim_ordered : xtalTrimMin ≤ xtalTrimDefault ∧ xtalTrimDefault ≤ xtalTrimMax := by
  simp only [xtalTrimMin, xtalTrimDefault, xtalTrimMax]
  omega

end Sys2Proof.Config
end

