-- ==== Sys2Proof/Laws/HostSide.lean ====
section
/-! SUPPORT. How host routines compose: `done` is neutral, sequencing is associative, and callbacks are put in place part by part. -/

namespace Sys2Proof.Machine

variable {α β γ : Type}

@[simp] theorem Routine.done_bind (a : α) (f : α → Routine β) : (Routine.done a).bind f = f a := rfl

@[simp] theorem Routine.op_bind (i : Instr) (next : List Byte → Routine α) (f : α → Routine β) :
    (Routine.op i next).bind f = .op i fun octets => (next octets).bind f := rfl

@[simp] theorem Routine.await_bind (mask : BitVec 32) (next : Routine α) (f : α → Routine β) :
    (Routine.await mask next).bind f = .await mask (next.bind f) := rfl

@[simp] theorem Routine.call_bind (c : Category) (snap : Snapshot) (next : Bool → Routine α) (f : α → Routine β) :
    (Routine.call c snap next).bind f = .call c snap fun freed => (next freed).bind f := rfl

@[simp] theorem Routine.bind_done (p : Routine α) : p.bind .done = p := by
  induction p with
  | done a => rfl
  | op i next ih => simp [ih]
  | await mask next ih => simp [ih]
  | call c snap next ih => simp [ih]

/-- Sequencing is associative. -/
theorem Routine.bind_assoc (p : Routine α) (f : α → Routine β) (g : β → Routine γ) :
    (p.bind f).bind g = p.bind fun a => (f a).bind g := by
  induction p with
  | done a => rfl
  | op i next ih => simp [ih]
  | await mask next ih => simp [ih]
  | call c snap next ih => simp [ih]

/-- Registered callbacks are put in place in each part of a sequence. -/
theorem Routine.withCallbacks_bind (cbs : Category → Snapshot → Routine Bool) (p : Routine α) (f : α → Routine β) :
    (p.bind f).withCallbacks cbs = (p.withCallbacks cbs).bind fun a => (f a).withCallbacks cbs := by
  induction p with
  | done a => rfl
  | op i next ih => simp [Routine.withCallbacks, ih]
  | await mask next ih => simp [Routine.withCallbacks, ih]
  | call c snap next ih => simp [Routine.withCallbacks, ih, Routine.bind_assoc]

/-- A routine's one operation is a step of `exec`, and the routine goes on with the octets it returned. -/
theorem Routine.step_op {i : Instr} {next : List Byte → Routine α} {s t : State} (h : exec i s = .next t) :
    (Routine.op i next).step s = .next (next t.response, t) := by
  simp [Routine.step, h]

end Sys2Proof.Machine
end

