-- ==== Sys2Proof/Laws/State.lean ====
section
/-! SUPPORT. One lemma per field per update of the state, so that no proof unfolds a record update. -/

namespace Sys2Proof.Machine

variable (s : State)

/-! ### `setEvent` -/

@[simp] theorem setEvent_locus (e : Event) : (setEvent e s).locus = s.locus := rfl
@[simp] theorem setEvent_calfsm (e : Event) : (setEvent e s).calfsm = s.calfsm := rfl
@[simp] theorem setEvent_saved (e : Event) : (setEvent e s).saved = s.saved := rfl
@[simp] theorem setEvent_aonCfg (e : Event) : (setEvent e s).aonCfg = s.aonCfg := rfl
@[simp] theorem setEvent_sleepCnt (e : Event) : (setEvent e s).sleepCnt = s.sleepCnt := rfl
@[simp] theorem setEvent_dxTime (e : Event) : (setEvent e s).dxTime = s.dxTime := rfl
@[simp] theorem setEvent_drefTime (e : Event) : (setEvent e s).drefTime = s.drefTime := rfl
@[simp] theorem setEvent_sysStatus (e : Event) : (setEvent e s).sysStatus = s.sysStatus ||| eventMask e := rfl
@[simp] theorem setEvent_cmdResult (e : Event) : (setEvent e s).cmdResult = s.cmdResult := rfl
@[simp] theorem setEvent_sysTime (e : Event) : (setEvent e s).sysTime = s.sysTime := rfl
@[simp] theorem setEvent_txStamp (e : Event) : (setEvent e s).txStamp = s.txStamp := rfl
@[simp] theorem setEvent_txRawst (e : Event) : (setEvent e s).txRawst = s.txRawst := rfl
@[simp] theorem setEvent_db (e : Event) : (setEvent e s).db = s.db := rfl
@[simp] theorem setEvent_buf0 (e : Event) : (setEvent e s).buf0 = s.buf0 := rfl
@[simp] theorem setEvent_buf1 (e : Event) : (setEvent e s).buf1 = s.buf1 := rfl
@[simp] theorem setEvent_stale0 (e : Event) : (setEvent e s).stale0 = s.stale0 := rfl
@[simp] theorem setEvent_stale1 (e : Event) : (setEvent e s).stale1 = s.stale1 := rfl
@[simp] theorem setEvent_tempSense (e : Event) : (setEvent e s).tempSense = s.tempSense := rfl
@[simp] theorem setEvent_rxCalResi (e : Event) : (setEvent e s).rxCalResi = s.rxCalResi := rfl
@[simp] theorem setEvent_rxCalResq (e : Event) : (setEvent e s).rxCalResq = s.rxCalResq := rfl
@[simp] theorem setEvent_adcThresh (e : Event) : (setEvent e s).adcThresh = s.adcThresh := rfl
@[simp] theorem setEvent_cal (e : Event) : (setEvent e s).cal = s.cal := rfl
@[simp] theorem setEvent_txpwrIdx (e : Event) : (setEvent e s).txpwrIdx = s.txpwrIdx := rfl
@[simp] theorem setEvent_dl (e : Event) : (setEvent e s).dl = s.dl := rfl
@[simp] theorem setEvent_sniffOn (e : Event) : (setEvent e s).sniffOn = s.sniffOn := rfl
@[simp] theorem setEvent_txW4r (e : Event) : (setEvent e s).txW4r = s.txW4r := rfl
@[simp] theorem setEvent_rxRaw (e : Event) : (setEvent e s).rxRaw = s.rxRaw := rfl
@[simp] theorem setEvent_phrOk (e : Event) : (setEvent e s).phrOk = s.phrOk := rfl
@[simp] theorem setEvent_rxStampLast (e : Event) : (setEvent e s).rxStampLast = s.rxStampLast := rfl
@[simp] theorem setEvent_aonSnapshot (e : Event) : (setEvent e s).aonSnapshot = s.aonSnapshot := rfl
@[simp] theorem setEvent_aonElapsed (e : Event) : (setEvent e s).aonElapsed = s.aonElapsed := rfl
@[simp] theorem setEvent_refused (e : Event) : (setEvent e s).refused = s.refused := rfl
@[simp] theorem setEvent_cir (e : Event) : (setEvent e s).cir = s.cir := rfl
@[simp] theorem setEvent_crcOk (e : Event) : (setEvent e s).crcOk = s.crcOk := rfl
@[simp] theorem setEvent_response (e : Event) : (setEvent e s).response = s.response := rfl
@[simp] theorem setEvent_agenda (e : Event) : (setEvent e s).agenda = s.agenda := rfl
@[simp] theorem setEvent_draws (e : Event) : (setEvent e s).draws = s.draws := rfl

/-! ### `clearEvent` -/

@[simp] theorem clearEvent_locus (e : Event) : (clearEvent e s).locus = s.locus := rfl
@[simp] theorem clearEvent_calfsm (e : Event) : (clearEvent e s).calfsm = s.calfsm := rfl
@[simp] theorem clearEvent_saved (e : Event) : (clearEvent e s).saved = s.saved := rfl
@[simp] theorem clearEvent_aonCfg (e : Event) : (clearEvent e s).aonCfg = s.aonCfg := rfl
@[simp] theorem clearEvent_sleepCnt (e : Event) : (clearEvent e s).sleepCnt = s.sleepCnt := rfl
@[simp] theorem clearEvent_dxTime (e : Event) : (clearEvent e s).dxTime = s.dxTime := rfl
@[simp] theorem clearEvent_drefTime (e : Event) : (clearEvent e s).drefTime = s.drefTime := rfl
@[simp] theorem clearEvent_sysStatus (e : Event) : (clearEvent e s).sysStatus = s.sysStatus &&& ~~~eventMask e := rfl
@[simp] theorem clearEvent_cmdResult (e : Event) : (clearEvent e s).cmdResult = s.cmdResult := rfl
@[simp] theorem clearEvent_sysTime (e : Event) : (clearEvent e s).sysTime = s.sysTime := rfl
@[simp] theorem clearEvent_txStamp (e : Event) : (clearEvent e s).txStamp = s.txStamp := rfl
@[simp] theorem clearEvent_txRawst (e : Event) : (clearEvent e s).txRawst = s.txRawst := rfl
@[simp] theorem clearEvent_db (e : Event) : (clearEvent e s).db = s.db := rfl
@[simp] theorem clearEvent_buf0 (e : Event) : (clearEvent e s).buf0 = s.buf0 := rfl
@[simp] theorem clearEvent_buf1 (e : Event) : (clearEvent e s).buf1 = s.buf1 := rfl
@[simp] theorem clearEvent_stale0 (e : Event) : (clearEvent e s).stale0 = s.stale0 := rfl
@[simp] theorem clearEvent_stale1 (e : Event) : (clearEvent e s).stale1 = s.stale1 := rfl
@[simp] theorem clearEvent_tempSense (e : Event) : (clearEvent e s).tempSense = s.tempSense := rfl
@[simp] theorem clearEvent_rxCalResi (e : Event) : (clearEvent e s).rxCalResi = s.rxCalResi := rfl
@[simp] theorem clearEvent_rxCalResq (e : Event) : (clearEvent e s).rxCalResq = s.rxCalResq := rfl
@[simp] theorem clearEvent_adcThresh (e : Event) : (clearEvent e s).adcThresh = s.adcThresh := rfl
@[simp] theorem clearEvent_cal (e : Event) : (clearEvent e s).cal = s.cal := rfl
@[simp] theorem clearEvent_txpwrIdx (e : Event) : (clearEvent e s).txpwrIdx = s.txpwrIdx := rfl
@[simp] theorem clearEvent_dl (e : Event) : (clearEvent e s).dl = s.dl := rfl
@[simp] theorem clearEvent_sniffOn (e : Event) : (clearEvent e s).sniffOn = s.sniffOn := rfl
@[simp] theorem clearEvent_txW4r (e : Event) : (clearEvent e s).txW4r = s.txW4r := rfl
@[simp] theorem clearEvent_rxRaw (e : Event) : (clearEvent e s).rxRaw = s.rxRaw := rfl
@[simp] theorem clearEvent_phrOk (e : Event) : (clearEvent e s).phrOk = s.phrOk := rfl
@[simp] theorem clearEvent_rxStampLast (e : Event) : (clearEvent e s).rxStampLast = s.rxStampLast := rfl
@[simp] theorem clearEvent_aonSnapshot (e : Event) : (clearEvent e s).aonSnapshot = s.aonSnapshot := rfl
@[simp] theorem clearEvent_aonElapsed (e : Event) : (clearEvent e s).aonElapsed = s.aonElapsed := rfl
@[simp] theorem clearEvent_refused (e : Event) : (clearEvent e s).refused = s.refused := rfl
@[simp] theorem clearEvent_cir (e : Event) : (clearEvent e s).cir = s.cir := rfl
@[simp] theorem clearEvent_crcOk (e : Event) : (clearEvent e s).crcOk = s.crcOk := rfl
@[simp] theorem clearEvent_response (e : Event) : (clearEvent e s).response = s.response := rfl
@[simp] theorem clearEvent_agenda (e : Event) : (clearEvent e s).agenda = s.agenda := rfl
@[simp] theorem clearEvent_draws (e : Event) : (clearEvent e s).draws = s.draws := rfl

/-! ### `setResult` -/

@[simp] theorem setResult_locus (c : ResultCode) : (setResult c s).locus = s.locus := rfl
@[simp] theorem setResult_calfsm (c : ResultCode) : (setResult c s).calfsm = s.calfsm := rfl
@[simp] theorem setResult_saved (c : ResultCode) : (setResult c s).saved = s.saved := rfl
@[simp] theorem setResult_aonCfg (c : ResultCode) : (setResult c s).aonCfg = s.aonCfg := rfl
@[simp] theorem setResult_sleepCnt (c : ResultCode) : (setResult c s).sleepCnt = s.sleepCnt := rfl
@[simp] theorem setResult_dxTime (c : ResultCode) : (setResult c s).dxTime = s.dxTime := rfl
@[simp] theorem setResult_drefTime (c : ResultCode) : (setResult c s).drefTime = s.drefTime := rfl
@[simp] theorem setResult_sysStatus (c : ResultCode) : (setResult c s).sysStatus = s.sysStatus ||| eventMask .cmddone := rfl
@[simp] theorem setResult_cmdResult (c : ResultCode) : (setResult c s).cmdResult = resultByte c := rfl
@[simp] theorem setResult_sysTime (c : ResultCode) : (setResult c s).sysTime = s.sysTime := rfl
@[simp] theorem setResult_txStamp (c : ResultCode) : (setResult c s).txStamp = s.txStamp := rfl
@[simp] theorem setResult_txRawst (c : ResultCode) : (setResult c s).txRawst = s.txRawst := rfl
@[simp] theorem setResult_db (c : ResultCode) : (setResult c s).db = s.db := rfl
@[simp] theorem setResult_buf0 (c : ResultCode) : (setResult c s).buf0 = s.buf0 := rfl
@[simp] theorem setResult_buf1 (c : ResultCode) : (setResult c s).buf1 = s.buf1 := rfl
@[simp] theorem setResult_stale0 (c : ResultCode) : (setResult c s).stale0 = s.stale0 := rfl
@[simp] theorem setResult_stale1 (c : ResultCode) : (setResult c s).stale1 = s.stale1 := rfl
@[simp] theorem setResult_tempSense (c : ResultCode) : (setResult c s).tempSense = s.tempSense := rfl
@[simp] theorem setResult_rxCalResi (c : ResultCode) : (setResult c s).rxCalResi = s.rxCalResi := rfl
@[simp] theorem setResult_rxCalResq (c : ResultCode) : (setResult c s).rxCalResq = s.rxCalResq := rfl
@[simp] theorem setResult_adcThresh (c : ResultCode) : (setResult c s).adcThresh = s.adcThresh := rfl
@[simp] theorem setResult_cal (c : ResultCode) : (setResult c s).cal = s.cal := rfl
@[simp] theorem setResult_txpwrIdx (c : ResultCode) : (setResult c s).txpwrIdx = s.txpwrIdx := rfl
@[simp] theorem setResult_dl (c : ResultCode) : (setResult c s).dl = s.dl := rfl
@[simp] theorem setResult_sniffOn (c : ResultCode) : (setResult c s).sniffOn = s.sniffOn := rfl
@[simp] theorem setResult_txW4r (c : ResultCode) : (setResult c s).txW4r = s.txW4r := rfl
@[simp] theorem setResult_rxRaw (c : ResultCode) : (setResult c s).rxRaw = s.rxRaw := rfl
@[simp] theorem setResult_phrOk (c : ResultCode) : (setResult c s).phrOk = s.phrOk := rfl
@[simp] theorem setResult_rxStampLast (c : ResultCode) : (setResult c s).rxStampLast = s.rxStampLast := rfl
@[simp] theorem setResult_aonSnapshot (c : ResultCode) : (setResult c s).aonSnapshot = s.aonSnapshot := rfl
@[simp] theorem setResult_aonElapsed (c : ResultCode) : (setResult c s).aonElapsed = s.aonElapsed := rfl
@[simp] theorem setResult_refused (c : ResultCode) : (setResult c s).refused = s.refused := rfl
@[simp] theorem setResult_cir (c : ResultCode) : (setResult c s).cir = s.cir := rfl
@[simp] theorem setResult_crcOk (c : ResultCode) : (setResult c s).crcOk = s.crcOk := rfl
@[simp] theorem setResult_response (c : ResultCode) : (setResult c s).response = s.response := rfl
@[simp] theorem setResult_agenda (c : ResultCode) : (setResult c s).agenda = s.agenda := rfl
@[simp] theorem setResult_draws (c : ResultCode) : (setResult c s).draws = s.draws := rfl

/-! ### `raiseCmdErr` -/

@[simp] theorem raiseCmdErr_locus : (raiseCmdErr s).locus = s.locus := rfl
@[simp] theorem raiseCmdErr_calfsm : (raiseCmdErr s).calfsm = s.calfsm := rfl
@[simp] theorem raiseCmdErr_saved : (raiseCmdErr s).saved = s.saved := rfl
@[simp] theorem raiseCmdErr_aonCfg : (raiseCmdErr s).aonCfg = s.aonCfg := rfl
@[simp] theorem raiseCmdErr_sleepCnt : (raiseCmdErr s).sleepCnt = s.sleepCnt := rfl
@[simp] theorem raiseCmdErr_dxTime : (raiseCmdErr s).dxTime = s.dxTime := rfl
@[simp] theorem raiseCmdErr_drefTime : (raiseCmdErr s).drefTime = s.drefTime := rfl
@[simp] theorem raiseCmdErr_sysStatus : (raiseCmdErr s).sysStatus = s.sysStatus ||| eventMask .cmderr ||| eventMask .cmddone := rfl
@[simp] theorem raiseCmdErr_cmdResult : (raiseCmdErr s).cmdResult = resultByte .error := rfl
@[simp] theorem raiseCmdErr_sysTime : (raiseCmdErr s).sysTime = s.sysTime := rfl
@[simp] theorem raiseCmdErr_txStamp : (raiseCmdErr s).txStamp = s.txStamp := rfl
@[simp] theorem raiseCmdErr_txRawst : (raiseCmdErr s).txRawst = s.txRawst := rfl
@[simp] theorem raiseCmdErr_db : (raiseCmdErr s).db = s.db := rfl
@[simp] theorem raiseCmdErr_buf0 : (raiseCmdErr s).buf0 = s.buf0 := rfl
@[simp] theorem raiseCmdErr_buf1 : (raiseCmdErr s).buf1 = s.buf1 := rfl
@[simp] theorem raiseCmdErr_stale0 : (raiseCmdErr s).stale0 = s.stale0 := rfl
@[simp] theorem raiseCmdErr_stale1 : (raiseCmdErr s).stale1 = s.stale1 := rfl
@[simp] theorem raiseCmdErr_tempSense : (raiseCmdErr s).tempSense = s.tempSense := rfl
@[simp] theorem raiseCmdErr_rxCalResi : (raiseCmdErr s).rxCalResi = s.rxCalResi := rfl
@[simp] theorem raiseCmdErr_rxCalResq : (raiseCmdErr s).rxCalResq = s.rxCalResq := rfl
@[simp] theorem raiseCmdErr_adcThresh : (raiseCmdErr s).adcThresh = s.adcThresh := rfl
@[simp] theorem raiseCmdErr_cal : (raiseCmdErr s).cal = s.cal := rfl
@[simp] theorem raiseCmdErr_txpwrIdx : (raiseCmdErr s).txpwrIdx = s.txpwrIdx := rfl
@[simp] theorem raiseCmdErr_dl : (raiseCmdErr s).dl = s.dl := rfl
@[simp] theorem raiseCmdErr_sniffOn : (raiseCmdErr s).sniffOn = s.sniffOn := rfl
@[simp] theorem raiseCmdErr_txW4r : (raiseCmdErr s).txW4r = s.txW4r := rfl
@[simp] theorem raiseCmdErr_rxRaw : (raiseCmdErr s).rxRaw = s.rxRaw := rfl
@[simp] theorem raiseCmdErr_phrOk : (raiseCmdErr s).phrOk = s.phrOk := rfl
@[simp] theorem raiseCmdErr_rxStampLast : (raiseCmdErr s).rxStampLast = s.rxStampLast := rfl
@[simp] theorem raiseCmdErr_aonSnapshot : (raiseCmdErr s).aonSnapshot = s.aonSnapshot := rfl
@[simp] theorem raiseCmdErr_aonElapsed : (raiseCmdErr s).aonElapsed = s.aonElapsed := rfl
@[simp] theorem raiseCmdErr_refused : (raiseCmdErr s).refused = s.refused := rfl
@[simp] theorem raiseCmdErr_cir : (raiseCmdErr s).cir = s.cir := rfl
@[simp] theorem raiseCmdErr_crcOk : (raiseCmdErr s).crcOk = s.crcOk := rfl
@[simp] theorem raiseCmdErr_response : (raiseCmdErr s).response = s.response := rfl
@[simp] theorem raiseCmdErr_agenda : (raiseCmdErr s).agenda = s.agenda := rfl
@[simp] theorem raiseCmdErr_draws : (raiseCmdErr s).draws = s.draws := rfl

/-! ### `announceFrame` -/

@[simp] theorem announceFrame_locus : (announceFrame s).locus = s.locus := rfl
@[simp] theorem announceFrame_calfsm : (announceFrame s).calfsm = s.calfsm := rfl
@[simp] theorem announceFrame_saved : (announceFrame s).saved = s.saved := rfl
@[simp] theorem announceFrame_aonCfg : (announceFrame s).aonCfg = s.aonCfg := rfl
@[simp] theorem announceFrame_sleepCnt : (announceFrame s).sleepCnt = s.sleepCnt := rfl
@[simp] theorem announceFrame_dxTime : (announceFrame s).dxTime = s.dxTime := rfl
@[simp] theorem announceFrame_drefTime : (announceFrame s).drefTime = s.drefTime := rfl
@[simp] theorem announceFrame_sysStatus : (announceFrame s).sysStatus = s.sysStatus ||| eventMask .rxfr ||| eventMask .rxfcg ||| eventMask .ciadone := rfl
@[simp] theorem announceFrame_cmdResult : (announceFrame s).cmdResult = s.cmdResult := rfl
@[simp] theorem announceFrame_sysTime : (announceFrame s).sysTime = s.sysTime := rfl
@[simp] theorem announceFrame_txStamp : (announceFrame s).txStamp = s.txStamp := rfl
@[simp] theorem announceFrame_txRawst : (announceFrame s).txRawst = s.txRawst := rfl
@[simp] theorem announceFrame_db : (announceFrame s).db = s.db := rfl
@[simp] theorem announceFrame_buf0 : (announceFrame s).buf0 = s.buf0 := rfl
@[simp] theorem announceFrame_buf1 : (announceFrame s).buf1 = s.buf1 := rfl
@[simp] theorem announceFrame_stale0 : (announceFrame s).stale0 = s.stale0 := rfl
@[simp] theorem announceFrame_stale1 : (announceFrame s).stale1 = s.stale1 := rfl
@[simp] theorem announceFrame_tempSense : (announceFrame s).tempSense = s.tempSense := rfl
@[simp] theorem announceFrame_rxCalResi : (announceFrame s).rxCalResi = s.rxCalResi := rfl
@[simp] theorem announceFrame_rxCalResq : (announceFrame s).rxCalResq = s.rxCalResq := rfl
@[simp] theorem announceFrame_adcThresh : (announceFrame s).adcThresh = s.adcThresh := rfl
@[simp] theorem announceFrame_cal : (announceFrame s).cal = s.cal := rfl
@[simp] theorem announceFrame_txpwrIdx : (announceFrame s).txpwrIdx = s.txpwrIdx := rfl
@[simp] theorem announceFrame_dl : (announceFrame s).dl = s.dl := rfl
@[simp] theorem announceFrame_sniffOn : (announceFrame s).sniffOn = s.sniffOn := rfl
@[simp] theorem announceFrame_txW4r : (announceFrame s).txW4r = s.txW4r := rfl
@[simp] theorem announceFrame_rxRaw : (announceFrame s).rxRaw = s.rxRaw := rfl
@[simp] theorem announceFrame_phrOk : (announceFrame s).phrOk = s.phrOk := rfl
@[simp] theorem announceFrame_rxStampLast : (announceFrame s).rxStampLast = s.rxStampLast := rfl
@[simp] theorem announceFrame_aonSnapshot : (announceFrame s).aonSnapshot = s.aonSnapshot := rfl
@[simp] theorem announceFrame_aonElapsed : (announceFrame s).aonElapsed = s.aonElapsed := rfl
@[simp] theorem announceFrame_refused : (announceFrame s).refused = s.refused := rfl
@[simp] theorem announceFrame_cir : (announceFrame s).cir = s.cir := rfl
@[simp] theorem announceFrame_crcOk : (announceFrame s).crcOk = s.crcOk := rfl
@[simp] theorem announceFrame_response : (announceFrame s).response = s.response := rfl
@[simp] theorem announceFrame_agenda : (announceFrame s).agenda = s.agenda := rfl
@[simp] theorem announceFrame_draws : (announceFrame s).draws = s.draws := rfl

/-! ### `resetDb` -/

@[simp] theorem resetDb_locus : (resetDb s).locus = s.locus := rfl
@[simp] theorem resetDb_calfsm : (resetDb s).calfsm = s.calfsm := rfl
@[simp] theorem resetDb_saved : (resetDb s).saved = s.saved := rfl
@[simp] theorem resetDb_aonCfg : (resetDb s).aonCfg = s.aonCfg := rfl
@[simp] theorem resetDb_sleepCnt : (resetDb s).sleepCnt = s.sleepCnt := rfl
@[simp] theorem resetDb_dxTime : (resetDb s).dxTime = s.dxTime := rfl
@[simp] theorem resetDb_drefTime : (resetDb s).drefTime = s.drefTime := rfl
@[simp] theorem resetDb_sysStatus : (resetDb s).sysStatus = s.sysStatus := rfl
@[simp] theorem resetDb_cmdResult : (resetDb s).cmdResult = s.cmdResult := rfl
@[simp] theorem resetDb_sysTime : (resetDb s).sysTime = s.sysTime := rfl
@[simp] theorem resetDb_txStamp : (resetDb s).txStamp = s.txStamp := rfl
@[simp] theorem resetDb_txRawst : (resetDb s).txRawst = s.txRawst := rfl
@[simp] theorem resetDb_db : (resetDb s).db = { hwBuf := false, hostBuf := false, full0 := false, full1 := false } := rfl
@[simp] theorem resetDb_buf0 : (resetDb s).buf0 = s.buf0 := rfl
@[simp] theorem resetDb_buf1 : (resetDb s).buf1 = s.buf1 := rfl
@[simp] theorem resetDb_stale0 : (resetDb s).stale0 = false := rfl
@[simp] theorem resetDb_stale1 : (resetDb s).stale1 = false := rfl
@[simp] theorem resetDb_tempSense : (resetDb s).tempSense = s.tempSense := rfl
@[simp] theorem resetDb_rxCalResi : (resetDb s).rxCalResi = s.rxCalResi := rfl
@[simp] theorem resetDb_rxCalResq : (resetDb s).rxCalResq = s.rxCalResq := rfl
@[simp] theorem resetDb_adcThresh : (resetDb s).adcThresh = s.adcThresh := rfl
@[simp] theorem resetDb_cal : (resetDb s).cal = s.cal := rfl
@[simp] theorem resetDb_txpwrIdx : (resetDb s).txpwrIdx = s.txpwrIdx := rfl
@[simp] theorem resetDb_dl : (resetDb s).dl = s.dl := rfl
@[simp] theorem resetDb_sniffOn : (resetDb s).sniffOn = s.sniffOn := rfl
@[simp] theorem resetDb_txW4r : (resetDb s).txW4r = s.txW4r := rfl
@[simp] theorem resetDb_rxRaw : (resetDb s).rxRaw = s.rxRaw := rfl
@[simp] theorem resetDb_phrOk : (resetDb s).phrOk = s.phrOk := rfl
@[simp] theorem resetDb_rxStampLast : (resetDb s).rxStampLast = s.rxStampLast := rfl
@[simp] theorem resetDb_aonSnapshot : (resetDb s).aonSnapshot = s.aonSnapshot := rfl
@[simp] theorem resetDb_aonElapsed : (resetDb s).aonElapsed = s.aonElapsed := rfl
@[simp] theorem resetDb_refused : (resetDb s).refused = s.refused := rfl
@[simp] theorem resetDb_cir : (resetDb s).cir = s.cir := rfl
@[simp] theorem resetDb_crcOk : (resetDb s).crcOk = s.crcOk := rfl
@[simp] theorem resetDb_response : (resetDb s).response = s.response := rfl
@[simp] theorem resetDb_agenda : (resetDb s).agenda = s.agenda := rfl
@[simp] theorem resetDb_draws : (resetDb s).draws = s.draws := rfl

/-! ### `dropRxCal` -/

@[simp] theorem dropRxCal_locus : (dropRxCal s).locus = s.locus := rfl
@[simp] theorem dropRxCal_calfsm : (dropRxCal s).calfsm = s.calfsm := rfl
@[simp] theorem dropRxCal_saved : (dropRxCal s).saved = s.saved := rfl
@[simp] theorem dropRxCal_aonCfg : (dropRxCal s).aonCfg = s.aonCfg := rfl
@[simp] theorem dropRxCal_sleepCnt : (dropRxCal s).sleepCnt = s.sleepCnt := rfl
@[simp] theorem dropRxCal_dxTime : (dropRxCal s).dxTime = s.dxTime := rfl
@[simp] theorem dropRxCal_drefTime : (dropRxCal s).drefTime = s.drefTime := rfl
@[simp] theorem dropRxCal_sysStatus : (dropRxCal s).sysStatus = s.sysStatus := rfl
@[simp] theorem dropRxCal_cmdResult : (dropRxCal s).cmdResult = s.cmdResult := rfl
@[simp] theorem dropRxCal_sysTime : (dropRxCal s).sysTime = s.sysTime := rfl
@[simp] theorem dropRxCal_txStamp : (dropRxCal s).txStamp = s.txStamp := rfl
@[simp] theorem dropRxCal_txRawst : (dropRxCal s).txRawst = s.txRawst := rfl
@[simp] theorem dropRxCal_db : (dropRxCal s).db = s.db := rfl
@[simp] theorem dropRxCal_buf0 : (dropRxCal s).buf0 = s.buf0 := rfl
@[simp] theorem dropRxCal_buf1 : (dropRxCal s).buf1 = s.buf1 := rfl
@[simp] theorem dropRxCal_stale0 : (dropRxCal s).stale0 = s.stale0 := rfl
@[simp] theorem dropRxCal_stale1 : (dropRxCal s).stale1 = s.stale1 := rfl
@[simp] theorem dropRxCal_tempSense : (dropRxCal s).tempSense = s.tempSense := rfl
@[simp] theorem dropRxCal_rxCalResi : (dropRxCal s).rxCalResi = s.rxCalResi := rfl
@[simp] theorem dropRxCal_rxCalResq : (dropRxCal s).rxCalResq = s.rxCalResq := rfl
@[simp] theorem dropRxCal_adcThresh : (dropRxCal s).adcThresh = s.adcThresh := rfl
@[simp] theorem dropRxCal_cal : (dropRxCal s).cal = { s.cal with pgfDone := false, adcDone := false } := rfl
@[simp] theorem dropRxCal_txpwrIdx : (dropRxCal s).txpwrIdx = s.txpwrIdx := rfl
@[simp] theorem dropRxCal_dl : (dropRxCal s).dl = s.dl := rfl
@[simp] theorem dropRxCal_sniffOn : (dropRxCal s).sniffOn = s.sniffOn := rfl
@[simp] theorem dropRxCal_txW4r : (dropRxCal s).txW4r = s.txW4r := rfl
@[simp] theorem dropRxCal_rxRaw : (dropRxCal s).rxRaw = s.rxRaw := rfl
@[simp] theorem dropRxCal_phrOk : (dropRxCal s).phrOk = s.phrOk := rfl
@[simp] theorem dropRxCal_rxStampLast : (dropRxCal s).rxStampLast = s.rxStampLast := rfl
@[simp] theorem dropRxCal_aonSnapshot : (dropRxCal s).aonSnapshot = s.aonSnapshot := rfl
@[simp] theorem dropRxCal_aonElapsed : (dropRxCal s).aonElapsed = s.aonElapsed := rfl
@[simp] theorem dropRxCal_refused : (dropRxCal s).refused = s.refused := rfl
@[simp] theorem dropRxCal_cir : (dropRxCal s).cir = s.cir := rfl
@[simp] theorem dropRxCal_crcOk : (dropRxCal s).crcOk = s.crcOk := rfl
@[simp] theorem dropRxCal_response : (dropRxCal s).response = s.response := rfl
@[simp] theorem dropRxCal_agenda : (dropRxCal s).agenda = s.agenda := rfl
@[simp] theorem dropRxCal_draws : (dropRxCal s).draws = s.draws := rfl

/-! ### `rxStop` -/

@[simp] theorem rxStop_locus : (rxStop s).locus = s.locus := rfl
@[simp] theorem rxStop_calfsm : (rxStop s).calfsm = s.calfsm := rfl
@[simp] theorem rxStop_saved : (rxStop s).saved = s.saved := rfl
@[simp] theorem rxStop_aonCfg : (rxStop s).aonCfg = s.aonCfg := rfl
@[simp] theorem rxStop_sleepCnt : (rxStop s).sleepCnt = s.sleepCnt := rfl
@[simp] theorem rxStop_dxTime : (rxStop s).dxTime = s.dxTime := rfl
@[simp] theorem rxStop_drefTime : (rxStop s).drefTime = s.drefTime := rfl
@[simp] theorem rxStop_sysStatus : (rxStop s).sysStatus = s.sysStatus := rfl
@[simp] theorem rxStop_cmdResult : (rxStop s).cmdResult = s.cmdResult := rfl
@[simp] theorem rxStop_sysTime : (rxStop s).sysTime = s.sysTime := rfl
@[simp] theorem rxStop_txStamp : (rxStop s).txStamp = s.txStamp := rfl
@[simp] theorem rxStop_txRawst : (rxStop s).txRawst = s.txRawst := rfl
@[simp] theorem rxStop_db : (rxStop s).db = s.db := rfl
@[simp] theorem rxStop_buf0 : (rxStop s).buf0 = s.buf0 := rfl
@[simp] theorem rxStop_buf1 : (rxStop s).buf1 = s.buf1 := rfl
@[simp] theorem rxStop_stale0 : (rxStop s).stale0 = s.stale0 := rfl
@[simp] theorem rxStop_stale1 : (rxStop s).stale1 = s.stale1 := rfl
@[simp] theorem rxStop_tempSense : (rxStop s).tempSense = s.tempSense := rfl
@[simp] theorem rxStop_rxCalResi : (rxStop s).rxCalResi = s.rxCalResi := rfl
@[simp] theorem rxStop_rxCalResq : (rxStop s).rxCalResq = s.rxCalResq := rfl
@[simp] theorem rxStop_adcThresh : (rxStop s).adcThresh = s.adcThresh := rfl
@[simp] theorem rxStop_cal : (rxStop s).cal = s.cal := rfl
@[simp] theorem rxStop_txpwrIdx : (rxStop s).txpwrIdx = s.txpwrIdx := rfl
@[simp] theorem rxStop_dl : (rxStop s).dl = { s.dl with fwto := none, pre := none, sfd := none, sniff := none } := rfl
@[simp] theorem rxStop_sniffOn : (rxStop s).sniffOn = true := rfl
@[simp] theorem rxStop_txW4r : (rxStop s).txW4r = s.txW4r := rfl
@[simp] theorem rxStop_rxRaw : (rxStop s).rxRaw = s.rxRaw := rfl
@[simp] theorem rxStop_phrOk : (rxStop s).phrOk = false := rfl
@[simp] theorem rxStop_rxStampLast : (rxStop s).rxStampLast = s.rxStampLast := rfl
@[simp] theorem rxStop_aonSnapshot : (rxStop s).aonSnapshot = s.aonSnapshot := rfl
@[simp] theorem rxStop_aonElapsed : (rxStop s).aonElapsed = s.aonElapsed := rfl
@[simp] theorem rxStop_refused : (rxStop s).refused = s.refused := rfl
@[simp] theorem rxStop_cir : (rxStop s).cir = s.cir := rfl
@[simp] theorem rxStop_crcOk : (rxStop s).crcOk = s.crcOk := rfl
@[simp] theorem rxStop_response : (rxStop s).response = s.response := rfl
@[simp] theorem rxStop_agenda : (rxStop s).agenda = s.agenda := rfl
@[simp] theorem rxStop_draws : (rxStop s).draws = s.draws := rfl

/-! ### `sleepEntry` -/

@[simp] theorem sleepEntry_locus (deep : Bool) : (sleepEntry deep s).locus = if deep then .deepSleep else .sleep := rfl
@[simp] theorem sleepEntry_calfsm (deep : Bool) : (sleepEntry deep s).calfsm = .none := rfl
@[simp] theorem sleepEntry_saved (deep : Bool) : (sleepEntry deep s).saved = s.saved := rfl
@[simp] theorem sleepEntry_aonCfg (deep : Bool) : (sleepEntry deep s).aonCfg = s.aonCfg := rfl
@[simp] theorem sleepEntry_sleepCnt (deep : Bool) : (sleepEntry deep s).sleepCnt = s.sleepCnt := rfl
@[simp] theorem sleepEntry_dxTime (deep : Bool) : (sleepEntry deep s).dxTime = s.dxTime := rfl
@[simp] theorem sleepEntry_drefTime (deep : Bool) : (sleepEntry deep s).drefTime = s.drefTime := rfl
@[simp] theorem sleepEntry_sysStatus (deep : Bool) : (sleepEntry deep s).sysStatus = s.sysStatus := rfl
@[simp] theorem sleepEntry_cmdResult (deep : Bool) : (sleepEntry deep s).cmdResult = s.cmdResult := rfl
@[simp] theorem sleepEntry_sysTime (deep : Bool) : (sleepEntry deep s).sysTime = s.sysTime := rfl
@[simp] theorem sleepEntry_txStamp (deep : Bool) : (sleepEntry deep s).txStamp = s.txStamp := rfl
@[simp] theorem sleepEntry_txRawst (deep : Bool) : (sleepEntry deep s).txRawst = s.txRawst := rfl
@[simp] theorem sleepEntry_db (deep : Bool) : (sleepEntry deep s).db = s.db := rfl
@[simp] theorem sleepEntry_buf0 (deep : Bool) : (sleepEntry deep s).buf0 = s.buf0 := rfl
@[simp] theorem sleepEntry_buf1 (deep : Bool) : (sleepEntry deep s).buf1 = s.buf1 := rfl
@[simp] theorem sleepEntry_stale0 (deep : Bool) : (sleepEntry deep s).stale0 = s.stale0 := rfl
@[simp] theorem sleepEntry_stale1 (deep : Bool) : (sleepEntry deep s).stale1 = s.stale1 := rfl
@[simp] theorem sleepEntry_tempSense (deep : Bool) : (sleepEntry deep s).tempSense = s.tempSense := rfl
@[simp] theorem sleepEntry_rxCalResi (deep : Bool) : (sleepEntry deep s).rxCalResi = s.rxCalResi := rfl
@[simp] theorem sleepEntry_rxCalResq (deep : Bool) : (sleepEntry deep s).rxCalResq = s.rxCalResq := rfl
@[simp] theorem sleepEntry_adcThresh (deep : Bool) : (sleepEntry deep s).adcThresh = s.adcThresh := rfl
@[simp] theorem sleepEntry_cal (deep : Bool) : (sleepEntry deep s).cal = { s.cal with pllLocked := false } := rfl
@[simp] theorem sleepEntry_txpwrIdx (deep : Bool) : (sleepEntry deep s).txpwrIdx = s.txpwrIdx := rfl
@[simp] theorem sleepEntry_dl (deep : Bool) : (sleepEntry deep s).dl = Deadlines.none := rfl
@[simp] theorem sleepEntry_sniffOn (deep : Bool) : (sleepEntry deep s).sniffOn = s.sniffOn := rfl
@[simp] theorem sleepEntry_txW4r (deep : Bool) : (sleepEntry deep s).txW4r = s.txW4r := rfl
@[simp] theorem sleepEntry_rxRaw (deep : Bool) : (sleepEntry deep s).rxRaw = s.rxRaw := rfl
@[simp] theorem sleepEntry_phrOk (deep : Bool) : (sleepEntry deep s).phrOk = s.phrOk := rfl
@[simp] theorem sleepEntry_rxStampLast (deep : Bool) : (sleepEntry deep s).rxStampLast = s.rxStampLast := rfl
@[simp] theorem sleepEntry_aonSnapshot (deep : Bool) : (sleepEntry deep s).aonSnapshot = s.saved := rfl
@[simp] theorem sleepEntry_aonElapsed (deep : Bool) : (sleepEntry deep s).aonElapsed = 0 := rfl
@[simp] theorem sleepEntry_refused (deep : Bool) : (sleepEntry deep s).refused = s.refused := rfl
@[simp] theorem sleepEntry_cir (deep : Bool) : (sleepEntry deep s).cir = s.cir := rfl
@[simp] theorem sleepEntry_crcOk (deep : Bool) : (sleepEntry deep s).crcOk = s.crcOk := rfl
@[simp] theorem sleepEntry_response (deep : Bool) : (sleepEntry deep s).response = s.response := rfl
@[simp] theorem sleepEntry_agenda (deep : Bool) : (sleepEntry deep s).agenda = s.agenda := rfl
@[simp] theorem sleepEntry_draws (deep : Bool) : (sleepEntry deep s).draws = s.draws := rfl

/-! ### `enterShr` -/

@[simp] theorem enterShr_locus : (enterShr s).locus = .tx .shr := rfl
@[simp] theorem enterShr_calfsm : (enterShr s).calfsm = s.calfsm := rfl
@[simp] theorem enterShr_saved : (enterShr s).saved = s.saved := rfl
@[simp] theorem enterShr_aonCfg : (enterShr s).aonCfg = s.aonCfg := rfl
@[simp] theorem enterShr_sleepCnt : (enterShr s).sleepCnt = s.sleepCnt := rfl
@[simp] theorem enterShr_dxTime : (enterShr s).dxTime = s.dxTime := rfl
@[simp] theorem enterShr_drefTime : (enterShr s).drefTime = s.drefTime := rfl
@[simp] theorem enterShr_sysStatus : (enterShr s).sysStatus = s.sysStatus := rfl
@[simp] theorem enterShr_cmdResult : (enterShr s).cmdResult = s.cmdResult := rfl
@[simp] theorem enterShr_sysTime : (enterShr s).sysTime = s.sysTime := rfl
@[simp] theorem enterShr_txStamp : (enterShr s).txStamp = s.txStamp := rfl
@[simp] theorem enterShr_txRawst : (enterShr s).txRawst = s.txRawst := rfl
@[simp] theorem enterShr_db : (enterShr s).db = s.db := rfl
@[simp] theorem enterShr_buf0 : (enterShr s).buf0 = s.buf0 := rfl
@[simp] theorem enterShr_buf1 : (enterShr s).buf1 = s.buf1 := rfl
@[simp] theorem enterShr_stale0 : (enterShr s).stale0 = s.stale0 := rfl
@[simp] theorem enterShr_stale1 : (enterShr s).stale1 = s.stale1 := rfl
@[simp] theorem enterShr_tempSense : (enterShr s).tempSense = s.tempSense := rfl
@[simp] theorem enterShr_rxCalResi : (enterShr s).rxCalResi = s.rxCalResi := rfl
@[simp] theorem enterShr_rxCalResq : (enterShr s).rxCalResq = s.rxCalResq := rfl
@[simp] theorem enterShr_adcThresh : (enterShr s).adcThresh = s.adcThresh := rfl
@[simp] theorem enterShr_cal : (enterShr s).cal = s.cal := rfl
@[simp] theorem enterShr_txpwrIdx : (enterShr s).txpwrIdx = s.txpwrIdx := rfl
@[simp] theorem enterShr_dl : (enterShr s).dl = { s.dl with rmark := some (s.sysTime + (Config.shrDtu (cfgOf s)).setWidth 40) } := rfl
@[simp] theorem enterShr_sniffOn : (enterShr s).sniffOn = s.sniffOn := rfl
@[simp] theorem enterShr_txW4r : (enterShr s).txW4r = s.txW4r := rfl
@[simp] theorem enterShr_rxRaw : (enterShr s).rxRaw = s.rxRaw := rfl
@[simp] theorem enterShr_phrOk : (enterShr s).phrOk = s.phrOk := rfl
@[simp] theorem enterShr_rxStampLast : (enterShr s).rxStampLast = s.rxStampLast := rfl
@[simp] theorem enterShr_aonSnapshot : (enterShr s).aonSnapshot = s.aonSnapshot := rfl
@[simp] theorem enterShr_aonElapsed : (enterShr s).aonElapsed = s.aonElapsed := rfl
@[simp] theorem enterShr_refused : (enterShr s).refused = s.refused := rfl
@[simp] theorem enterShr_cir : (enterShr s).cir = s.cir := rfl
@[simp] theorem enterShr_crcOk : (enterShr s).crcOk = s.crcOk := rfl
@[simp] theorem enterShr_response : (enterShr s).response = s.response := rfl
@[simp] theorem enterShr_agenda : (enterShr s).agenda = s.agenda := rfl
@[simp] theorem enterShr_draws : (enterShr s).draws = s.draws := rfl

/-! ### `setStale` -/

@[simp] theorem setStale_locus (n v : Bool) : (setStale n v s).locus = s.locus := by cases n <;> rfl
@[simp] theorem setStale_calfsm (n v : Bool) : (setStale n v s).calfsm = s.calfsm := by cases n <;> rfl
@[simp] theorem setStale_saved (n v : Bool) : (setStale n v s).saved = s.saved := by cases n <;> rfl
@[simp] theorem setStale_aonCfg (n v : Bool) : (setStale n v s).aonCfg = s.aonCfg := by cases n <;> rfl
@[simp] theorem setStale_sleepCnt (n v : Bool) : (setStale n v s).sleepCnt = s.sleepCnt := by cases n <;> rfl
@[simp] theorem setStale_dxTime (n v : Bool) : (setStale n v s).dxTime = s.dxTime := by cases n <;> rfl
@[simp] theorem setStale_drefTime (n v : Bool) : (setStale n v s).drefTime = s.drefTime := by cases n <;> rfl
@[simp] theorem setStale_sysStatus (n v : Bool) : (setStale n v s).sysStatus = s.sysStatus := by cases n <;> rfl
@[simp] theorem setStale_cmdResult (n v : Bool) : (setStale n v s).cmdResult = s.cmdResult := by cases n <;> rfl
@[simp] theorem setStale_sysTime (n v : Bool) : (setStale n v s).sysTime = s.sysTime := by cases n <;> rfl
@[simp] theorem setStale_txStamp (n v : Bool) : (setStale n v s).txStamp = s.txStamp := by cases n <;> rfl
@[simp] theorem setStale_txRawst (n v : Bool) : (setStale n v s).txRawst = s.txRawst := by cases n <;> rfl
@[simp] theorem setStale_db (n v : Bool) : (setStale n v s).db = s.db := by cases n <;> rfl
@[simp] theorem setStale_buf0 (n v : Bool) : (setStale n v s).buf0 = s.buf0 := by cases n <;> rfl
@[simp] theorem setStale_buf1 (n v : Bool) : (setStale n v s).buf1 = s.buf1 := by cases n <;> rfl
@[simp] theorem setStale_stale0 (n v : Bool) : (setStale n v s).stale0 = if n then s.stale0 else v := by cases n <;> rfl
@[simp] theorem setStale_stale1 (n v : Bool) : (setStale n v s).stale1 = if n then v else s.stale1 := by cases n <;> rfl
@[simp] theorem setStale_tempSense (n v : Bool) : (setStale n v s).tempSense = s.tempSense := by cases n <;> rfl
@[simp] theorem setStale_rxCalResi (n v : Bool) : (setStale n v s).rxCalResi = s.rxCalResi := by cases n <;> rfl
@[simp] theorem setStale_rxCalResq (n v : Bool) : (setStale n v s).rxCalResq = s.rxCalResq := by cases n <;> rfl
@[simp] theorem setStale_adcThresh (n v : Bool) : (setStale n v s).adcThresh = s.adcThresh := by cases n <;> rfl
@[simp] theorem setStale_cal (n v : Bool) : (setStale n v s).cal = s.cal := by cases n <;> rfl
@[simp] theorem setStale_txpwrIdx (n v : Bool) : (setStale n v s).txpwrIdx = s.txpwrIdx := by cases n <;> rfl
@[simp] theorem setStale_dl (n v : Bool) : (setStale n v s).dl = s.dl := by cases n <;> rfl
@[simp] theorem setStale_sniffOn (n v : Bool) : (setStale n v s).sniffOn = s.sniffOn := by cases n <;> rfl
@[simp] theorem setStale_txW4r (n v : Bool) : (setStale n v s).txW4r = s.txW4r := by cases n <;> rfl
@[simp] theorem setStale_rxRaw (n v : Bool) : (setStale n v s).rxRaw = s.rxRaw := by cases n <;> rfl
@[simp] theorem setStale_phrOk (n v : Bool) : (setStale n v s).phrOk = s.phrOk := by cases n <;> rfl
@[simp] theorem setStale_rxStampLast (n v : Bool) : (setStale n v s).rxStampLast = s.rxStampLast := by cases n <;> rfl
@[simp] theorem setStale_aonSnapshot (n v : Bool) : (setStale n v s).aonSnapshot = s.aonSnapshot := by cases n <;> rfl
@[simp] theorem setStale_aonElapsed (n v : Bool) : (setStale n v s).aonElapsed = s.aonElapsed := by cases n <;> rfl
@[simp] theorem setStale_refused (n v : Bool) : (setStale n v s).refused = s.refused := by cases n <;> rfl
@[simp] theorem setStale_cir (n v : Bool) : (setStale n v s).cir = s.cir := by cases n <;> rfl
@[simp] theorem setStale_crcOk (n v : Bool) : (setStale n v s).crcOk = s.crcOk := by cases n <;> rfl
@[simp] theorem setStale_response (n v : Bool) : (setStale n v s).response = s.response := by cases n <;> rfl
@[simp] theorem setStale_agenda (n v : Bool) : (setStale n v s).agenda = s.agenda := by cases n <;> rfl
@[simp] theorem setStale_draws (n v : Bool) : (setStale n v s).draws = s.draws := by cases n <;> rfl

/-! ### `setBuf` -/

@[simp] theorem setBuf_locus (n : Bool) (b : BufSet) : (setBuf n b s).locus = s.locus := by cases n <;> rfl
@[simp] theorem setBuf_calfsm (n : Bool) (b : BufSet) : (setBuf n b s).calfsm = s.calfsm := by cases n <;> rfl
@[simp] theorem setBuf_saved (n : Bool) (b : BufSet) : (setBuf n b s).saved = s.saved := by cases n <;> rfl
@[simp] theorem setBuf_aonCfg (n : Bool) (b : BufSet) : (setBuf n b s).aonCfg = s.aonCfg := by cases n <;> rfl
@[simp] theorem setBuf_sleepCnt (n : Bool) (b : BufSet) : (setBuf n b s).sleepCnt = s.sleepCnt := by cases n <;> rfl
@[simp] theorem setBuf_dxTime (n : Bool) (b : BufSet) : (setBuf n b s).dxTime = s.dxTime := by cases n <;> rfl
@[simp] theorem setBuf_drefTime (n : Bool) (b : BufSet) : (setBuf n b s).drefTime = s.drefTime := by cases n <;> rfl
@[simp] theorem setBuf_sysStatus (n : Bool) (b : BufSet) : (setBuf n b s).sysStatus = s.sysStatus := by cases n <;> rfl
@[simp] theorem setBuf_cmdResult (n : Bool) (b : BufSet) : (setBuf n b s).cmdResult = s.cmdResult := by cases n <;> rfl
@[simp] theorem setBuf_sysTime (n : Bool) (b : BufSet) : (setBuf n b s).sysTime = s.sysTime := by cases n <;> rfl
@[simp] theorem setBuf_txStamp (n : Bool) (b : BufSet) : (setBuf n b s).txStamp = s.txStamp := by cases n <;> rfl
@[simp] theorem setBuf_txRawst (n : Bool) (b : BufSet) : (setBuf n b s).txRawst = s.txRawst := by cases n <;> rfl
@[simp] theorem setBuf_db (n : Bool) (b : BufSet) : (setBuf n b s).db = s.db := by cases n <;> rfl
@[simp] theorem setBuf_buf0 (n : Bool) (b : BufSet) : (setBuf n b s).buf0 = if n then s.buf0 else b := by cases n <;> rfl
@[simp] theorem setBuf_buf1 (n : Bool) (b : BufSet) : (setBuf n b s).buf1 = if n then b else s.buf1 := by cases n <;> rfl
@[simp] theorem setBuf_stale0 (n : Bool) (b : BufSet) : (setBuf n b s).stale0 = s.stale0 := by cases n <;> rfl
@[simp] theorem setBuf_stale1 (n : Bool) (b : BufSet) : (setBuf n b s).stale1 = s.stale1 := by cases n <;> rfl
@[simp] theorem setBuf_tempSense (n : Bool) (b : BufSet) : (setBuf n b s).tempSense = s.tempSense := by cases n <;> rfl
@[simp] theorem setBuf_rxCalResi (n : Bool) (b : BufSet) : (setBuf n b s).rxCalResi = s.rxCalResi := by cases n <;> rfl
@[simp] theorem setBuf_rxCalResq (n : Bool) (b : BufSet) : (setBuf n b s).rxCalResq = s.rxCalResq := by cases n <;> rfl
@[simp] theorem setBuf_adcThresh (n : Bool) (b : BufSet) : (setBuf n b s).adcThresh = s.adcThresh := by cases n <;> rfl
@[simp] theorem setBuf_cal (n : Bool) (b : BufSet) : (setBuf n b s).cal = s.cal := by cases n <;> rfl
@[simp] theorem setBuf_txpwrIdx (n : Bool) (b : BufSet) : (setBuf n b s).txpwrIdx = s.txpwrIdx := by cases n <;> rfl
@[simp] theorem setBuf_dl (n : Bool) (b : BufSet) : (setBuf n b s).dl = s.dl := by cases n <;> rfl
@[simp] theorem setBuf_sniffOn (n : Bool) (b : BufSet) : (setBuf n b s).sniffOn = s.sniffOn := by cases n <;> rfl
@[simp] theorem setBuf_txW4r (n : Bool) (b : BufSet) : (setBuf n b s).txW4r = s.txW4r := by cases n <;> rfl
@[simp] theorem setBuf_rxRaw (n : Bool) (b : BufSet) : (setBuf n b s).rxRaw = s.rxRaw := by cases n <;> rfl
@[simp] theorem setBuf_phrOk (n : Bool) (b : BufSet) : (setBuf n b s).phrOk = s.phrOk := by cases n <;> rfl
@[simp] theorem setBuf_rxStampLast (n : Bool) (b : BufSet) : (setBuf n b s).rxStampLast = s.rxStampLast := by cases n <;> rfl
@[simp] theorem setBuf_aonSnapshot (n : Bool) (b : BufSet) : (setBuf n b s).aonSnapshot = s.aonSnapshot := by cases n <;> rfl
@[simp] theorem setBuf_aonElapsed (n : Bool) (b : BufSet) : (setBuf n b s).aonElapsed = s.aonElapsed := by cases n <;> rfl
@[simp] theorem setBuf_refused (n : Bool) (b : BufSet) : (setBuf n b s).refused = s.refused := by cases n <;> rfl
@[simp] theorem setBuf_cir (n : Bool) (b : BufSet) : (setBuf n b s).cir = s.cir := by cases n <;> rfl
@[simp] theorem setBuf_crcOk (n : Bool) (b : BufSet) : (setBuf n b s).crcOk = s.crcOk := by cases n <;> rfl
@[simp] theorem setBuf_response (n : Bool) (b : BufSet) : (setBuf n b s).response = s.response := by cases n <;> rfl
@[simp] theorem setBuf_agenda (n : Bool) (b : BufSet) : (setBuf n b s).agenda = s.agenda := by cases n <;> rfl
@[simp] theorem setBuf_draws (n : Bool) (b : BufSet) : (setBuf n b s).draws = s.draws := by cases n <;> rfl

end Sys2Proof.Machine
end

