-- ==== Sys2Proof/Laws/Memory.lean ====
section
/-! SUPPORT. The CIR memory's canonical form: every operation that writes the memory keeps it, and a run of samples is read back. -/

namespace Sys2Proof.Machine

/-- The cells of a run lie at the addresses from `a` on, six a sample. -/
theorem runCells_range {a : Nat} {xs : List Sample} {c : Nat × Byte} (h : c ∈ runCells a xs) :
    a ≤ c.1 ∧ c.1 < a + 6 * xs.length := by
  induction xs generalizing a with
  | nil => simp [runCells] at h
  | cons x xs ih =>
    simp only [runCells, List.mem_append] at h
    rcases h with h | h
    · simp only [sampleCells, List.mem_cons, List.not_mem_nil, or_false] at h
      simp only [List.length_cons]
      rcases h with rfl | rfl | rfl | rfl | rfl | rfl <;> constructor <;> simp <;> omega
    · have := ih h
      simp only [List.length_cons]
      omega

theorem runCells_wf (a : Nat) (xs : List Sample) : Memory.wf (runCells a xs) := by
  induction xs generalizing a with
  | nil => exact .nil
  | cons x xs ih =>
    refine List.pairwise_append.2 ⟨?_, ih _, ?_⟩
    · simp [sampleCells]
    · intro c hc d hd
      have := runCells_range hd
      simp only [sampleCells, List.mem_cons, List.not_mem_nil, or_false] at hc
      rcases hc with rfl | rfl | rfl | rfl | rfl | rfl <;> simp <;> omega

/-- The memory a good frame leaves is in canonical form. -/
theorem cirCells_wf (m : Meas) : Memory.wf (cirCells m) := by
  have h0 : Config.cirLen 0 ≤ 1016 := (Config.cirLen_bounds 0).2
  have h1 : Config.cirLen 1 ≤ 1016 := (Config.cirLen_bounds 1).2
  unfold cirCells
  refine List.pairwise_append.2 ⟨List.pairwise_append.2 ⟨runCells_wf .., runCells_wf .., ?_⟩, runCells_wf .., ?_⟩
  · intro c hc d hd
    have hc := runCells_range hc
    have hd := runCells_range hd
    simp [cirAddr, Config.cirLenMax] at hc hd
    omega
  · intro c hc d hd
    have hd := runCells_range hd
    simp [cirAddr, Config.cirLenMax] at hd
    rcases List.mem_append.1 hc with hc | hc <;> have hc := runCells_range hc <;>
      simp [cirAddr, Config.cirLenMax] at hc <;> omega

/-- `CiaWrite` leaves a memory in canonical form. -/
theorem ciaWrite_wf (n : Bool) (len : BitVec 10) (rng : Bool) (m : Meas) (s : State) :
    Memory.wf (ciaWrite n len rng m s).cir := cirCells_wf m

/-- The memory after reset is in canonical form. -/
theorem reset_cir_wf : Memory.wf State.reset.cir := .nil

theorem blockReset_cir_wf (s : State) : Memory.wf (blockReset s).cir := .nil

theorem wake_cir_wf (s : State) : Memory.wf (wake s).cir := .nil

end Sys2Proof.Machine
end

