-- ==== Sys2Proof/Laws/Ops.lean ====
section
/-! SUPPORT. What each shared operation can do, said once: a stop, or a next state of a stated form. -/

namespace Sys2Proof.Machine

/-! ### Sequencing and the port -/

theorem andThen_eq_next {r : Res} {f : State → Res} {t : State} :
    andThen r f = .next t ↔ ∃ u, r = .next u ∧ f u = .next t := by
  cases r <;> simp [andThen]

/-- A port operation that is enabled runs on the state with the old response gone. -/
theorem atPort_ready {s : State} {f : State → Res} (ha : asleep s = false) (hd : due s = none) :
    atPort s f = f { s with response := [] } := by
  simp [atPort, ha, hd]

theorem atPort_eq_next {s : State} {f : State → Res} {t : State} (h : atPort s f = .next t) :
    asleep s = false ∧ due s = none ∧ f { s with response := [] } = .next t := by
  unfold atPort at h
  split at h
  · cases h
  · split at h
    · cases h
    · refine ⟨by simp_all, ?_, h⟩
      simp_all [Option.isSome_iff_ne_none]

theorem access_in_bounds {id off : Byte} {n : Nat} {f : Reg → Res} {r : Reg} (hr : regOfId id = some r)
    (hb : off.toNat + n ≤ regOctets r) : access id off n f = f r := by
  simp [access, hr, hb]

theorem access_eq_next {id off : Byte} {n : Nat} {f : Reg → Res} {t : State} (h : access id off n f = .next t) :
    ∃ r, regOfId id = some r ∧ off.toNat + n ≤ regOctets r ∧ f r = .next t := by
  unfold access at h
  split at h
  · cases h
  · split at h
    · exact ⟨_, by assumption, by assumption, h⟩
    · cases h

/-- Under a good CRC a write simply happens. -/
theorem underCrc_good {s : State} {f : State → State} (h : crcGood s = true) : underCrc s f = .next (f s) := by
  simp [underCrc, h]

/-- Every outcome of a write under the transport CRC. -/
theorem underCrc_cases (s : State) (f : State → State) :
    underCrc s f = .next (f s) ∨ underCrc s f = .next (setEvent .spicrce (f { s with draws := s.draws + 1 })) ∨
      underCrc s f = .next (setEvent .spicrce { s with draws := s.draws + 1 }) := by
  unfold underCrc
  split
  · exact .inl rfl
  · split
    · exact .inr (.inl rfl)
    · exact .inr (.inr rfl)

theorem portRead_eq_next {id off n : Byte} {width : Nat} {s t : State} (h : portRead id off n width s = .next t) :
    asleep s = false ∧ due s = none ∧ n.toNat = width ∧ ∃ r, regOfId id = some r ∧ off.toNat + width ≤ regOctets r ∧
      t = readReg r off.toNat width { s with response := [] } := by
  obtain ⟨ha, hd, h⟩ := atPort_eq_next h
  by_cases hn : n.toNat = width
  · simp only [hn, ne_eq, not_true_eq_false, if_false] at h
    obtain ⟨r, hr, hb, h⟩ := access_eq_next h
    exact ⟨ha, hd, hn, r, hr, hb, by cases h; rfl⟩
  · simp [hn] at h

theorem portWrite_eq_next {id off n : Byte} {width : Nat} {v : Wide} {s t : State}
    (h : portWrite id off n width v s = .next t) :
    asleep s = false ∧ due s = none ∧ n.toNat = width ∧ ∃ r, regOfId id = some r ∧ off.toNat + width ≤ regOctets r ∧
      locked r { s with response := [] } = false ∧
      underCrc { s with response := [] } (fun s => writeReg r off.toNat width v s) = .next t := by
  obtain ⟨ha, hd, h⟩ := atPort_eq_next h
  by_cases hn : n.toNat = width
  · simp only [hn, ne_eq, not_true_eq_false, if_false] at h
    obtain ⟨r, hr, hb, h⟩ := access_eq_next h
    split at h
    · cases h
    · exact ⟨ha, hd, hn, r, hr, hb, by simp_all, h⟩
  · simp [hn] at h

theorem portModify_eq_next {id off n : Byte} {width : Nat} {a o : Wide} {s t : State}
    (h : portModify id off n width a o s = .next t) :
    asleep s = false ∧ due s = none ∧ n.toNat = width ∧ ∃ r, regOfId id = some r ∧ off.toNat + width ≤ regOctets r ∧
      locked r { s with response := [] } = false ∧ r ≠ .sysStatus ∧ r ≠ .cmd ∧
      underCrc { s with response := [] } (fun s => writeReg r off.toNat width (modified s r off.toNat width a o) s) = .next t := by
  obtain ⟨ha, hd, h⟩ := atPort_eq_next h
  by_cases hn : n.toNat = width
  · simp only [hn, ne_eq, not_true_eq_false, if_false] at h
    obtain ⟨r, hr, hb, h⟩ := access_eq_next h
    split at h
    · cases h
    · split at h
      · cases h
      · rename_i hl hs
        exact ⟨ha, hd, hn, r, hr, hb, by simp_all, fun e => hs (.inl e), fun e => hs (.inr e), h⟩
  · simp [hn] at h

/-- A command that answers a next state raised `CmdErr`, or passed every admission test and ran its body. -/
theorem command_eq_next {soft argsOk : Bool} {admits extra : State → Bool} {body : State → Res} {s t : State}
    (h : command soft argsOk admits extra body s = .next t) :
    asleep s = false ∧ due s = none ∧ crcGood s = true ∧ (s.cal.cfgUndef = false ∨ soft = true) ∧
      (t = raiseCmdErr (clearEvent .cmddone { s with response := [] }) ∨
        (argsOk = true ∧ (busy s = false ∨ soft = true) ∧ admits (clearEvent .cmddone { s with response := [] }) = true ∧
          extra (clearEvent .cmddone { s with response := [] }) = true ∧
          body (clearEvent .cmddone { s with response := [] }) = .next t)) := by
  obtain ⟨ha, hd, h⟩ := atPort_eq_next h
  by_cases hc : crcGood { s with response := [] } = true
  · simp only [hc, Bool.not_true, Bool.false_eq_true, if_false] at h
    refine ⟨ha, hd, hc, ?_⟩
    split at h
    · cases h
    · rename_i hu
      refine ⟨by revert hu; cases hcu : s.cal.cfgUndef <;> cases soft <;> simp [hcu], ?_⟩
      split at h
      · cases h; exact .inl rfl
      · split at h
        · cases h; exact .inl rfl
        · rename_i hb
          split at h
          · cases h; exact .inl rfl
          · split at h
            · cases h; exact .inl rfl
            · refine .inr ⟨by simp_all, ?_, by simp_all, by simp_all, h⟩
              have hb' : ¬((busy s && !soft) = true) := hb
              revert hb'; cases busy s <;> cases soft <;> simp
  · simp [hc] at h

/-! ### Deadlines -/

theorem dueAt_iff {d : Option Time} {s : State} : dueAt d s = true ↔ d = some s.sysTime := by
  simp [dueAt]

/-- An interval that is given lies below `2^39` DTU and is the product. -/
theorem interval_eq_some {count unit : Nat} {d : Time} (h : interval count unit = some d) :
    count * unit < 2 ^ 39 ∧ d.toNat = count * unit := by
  unfold interval at h
  split at h
  · rename_i hlt
    cases h
    have h39 : count * unit < 2 ^ 39 := hlt
    exact ⟨h39, by rw [BitVec.toNat_ofNat]; exact Nat.mod_eq_of_lt (by omega)⟩
  · cases h

/-- A deadline that is given is disabled where the count is 0, else one interval ahead. -/
theorem deadlineAfter_eq_some {now : Time} {count unit : Nat} {d : Option Time} (h : deadlineAfter now count unit = some d) :
    (count = 0 ∧ d = none) ∨ (count ≠ 0 ∧ count * unit < 2 ^ 39 ∧ d = some (now + BitVec.ofNat 40 (count * unit))) := by
  unfold deadlineAfter at h
  split at h
  · cases h; exact .inl ⟨by assumption, rfl⟩
  · rename_i hc
    unfold interval at h
    by_cases hlt : count * unit < Config.intervalLimit
    · simp only [hlt, if_true, Option.some.injEq] at h
      exact .inr ⟨hc, hlt, h.symm⟩
    · simp [hlt] at h

/-- What entering phase `HUNT` leaves: the phase, the flags, and the deadlines of this attempt. -/
theorem enterHunt_eq_next {s t : State} (h : enterHunt s = .next t) :
    ∃ fwto pre sniff, deadlineAfter s.sysTime (fwtoCountOf s.saved.rxFwto) Config.fwtoUnit = some fwto ∧
      deadlineAfter s.sysTime s.saved.preToc.toNat (Config.pacDtu (cfgOf s)) = some pre ∧ sniffFirst s = some sniff ∧
      t = { s with
        locus := .rx .hunt, phrOk := false, sniffOn := true
        dl := { s.dl with fwto := fwto, pre := pre, sfd := none, sniff := sniff } } := by
  unfold enterHunt at h
  split at h
  · rename_i f p n hf hp hn
    cases h
    exact ⟨f, p, n, hf, hp, hn, rfl⟩
  · cases h

/-- The receiver is enabled or an overrun is reported. -/
theorem rxEnableNow_eq_next {s t : State} (h : rxEnableNow s = .next t) :
    (overrun s = true ∧ t = rxOverrun s) ∨ (overrun s = false ∧ enterHunt s = .next t) := by
  unfold rxEnableNow at h
  split at h
  · cases h; exact .inl ⟨by assumption, rfl⟩
  · exact .inr ⟨by simp_all, h⟩

/-! ### Steps -/

/-- Every step is a due transition or a step of the first agent of the agenda. -/
theorem step_eq_next {s t : State} (h : step s = .next t) :
    s.refused = false ∧
      ((∃ q, due s = some q ∧ fire q s = .next t) ∨
        (due s = none ∧ ∃ a u, perform a u = .next t ∧
          ((∃ rest, s.agenda = a :: rest ∧ u = { s with agenda := rest }) ∨
            (s.agenda = [] ∧ a = Config.freeAction s.draws ∧ u = { s with draws := s.draws + 1 })))) := by
  unfold step at h
  split at h
  · cases h
  · refine ⟨by simp_all, ?_⟩
    split at h
    · exact .inl ⟨_, by assumption, h⟩
    · refine .inr ⟨by assumption, ?_⟩
      unfold outsideStep at h
      split at h
      · exact ⟨_, _, h, .inl ⟨_, by assumption, rfl⟩⟩
      · exact ⟨_, _, h, .inr ⟨by assumption, rfl, rfl⟩⟩

/-- A port record that answers a next state decoded to one instruction, which ran. -/
theorem portStep_eq_next {octets : List Byte} {s t : State} (h : portStep octets s = .next t) :
    ∃ i, decode octets = .ok (i, []) ∧ exec i s = .next t := by
  unfold portStep at h
  split at h
  · exact ⟨_, by assumption, h⟩
  all_goals
    unfold badRecord at h
    obtain ⟨-, -, h⟩ := atPort_eq_next h
    cases h

/-! ### Calibration -/

/-- Every step of agent `Cal`, by the machine's state. -/
theorem calStep_eq_next {d : CalDraw} {s t : State} (h : calStep d s = .next t) :
    (∃ l p, s.calfsm = .pll l p ∧ t = if d.lock then pllLock d.cc s else pllMiss l p s) ∨
      (∃ n a, s.calfsm = .pgf n a ∧ t = pgfAttempt d.ok n a s) ∨
      (∃ a, s.calfsm = .res a ∧ t = resCheck d.resi d.resq a s) ∨ (s.calfsm = .adc ∧ t = adcCal d.ok d.thr s) := by
  unfold calStep at h
  split at h
  · cases h
  · cases h; exact .inl ⟨_, _, by assumption, rfl⟩
  · cases h; exact .inr (.inl ⟨_, _, by assumption, rfl⟩)
  · cases h; exact .inr (.inr (.inl ⟨_, by assumption, rfl⟩))
  · cases h; exact .inr (.inr (.inr ⟨by assumption, rfl⟩))

end Sys2Proof.Machine
end

