-- ==== Sys2Proof/Laws/PerInstr.lean ====
section
/-! SUPPORT. Statements made of every instruction, one lemma per constructor. -/

namespace Sys2Proof.Laws.Record

/-- The record of an instruction whose counts fit is 4 to 24 octets long, 6 for a command, and begins with a tag of rule R82
(rules R81, R83, R85). -/
def Statement (i : Instr) : Prop :=
  i.countOk = true →
    4 ≤ (encode i).length ∧ (encode i).length ≤ maxRecord ∧ ((encodeCommand i).isSome = true → (encode i).length = 6) ∧
      ∃ tag rest, encode i = tag :: rest ∧ (isRegisterTag tag = true ∨ tag = 0x30 ∨ tag = 0x31)

/-- A port operation of fixed length. -/
theorem of_fixed {i : Instr} {tag : Byte} {rest : List Byte} (h : encode i = tag :: rest) (h3 : 3 ≤ rest.length)
    (h23 : rest.length ≤ 23) (hc : encodeCommand i = none) (ht : isRegisterTag tag = true ∨ tag = 0x30 ∨ tag = 0x31) :
    Statement i := fun _ => by
  simp only [h, hc, List.length_cons, maxRecord]
  exact ⟨by omega, by omega, fun h => absurd h (by simp), tag, rest, rfl, ht⟩

/-- A command. -/
theorem of_command {i : Instr} {w : BitVec 16} (h : encode i = commandRecord w) : Statement i := fun _ => by
  rw [h]
  exact ⟨Nat.le_of_ble_eq_true rfl, Nat.le_of_ble_eq_true rfl, fun _ => rfl, 0x11, _, rfl, .inl rfl⟩

theorem rd8 (id off n : Byte) : Statement (.rd8 id off n) :=
  of_fixed rfl (Nat.le_of_ble_eq_true rfl) (Nat.le_of_ble_eq_true rfl) rfl (.inl rfl)

theorem rd16 (id off n : Byte) : Statement (.rd16 id off n) :=
  of_fixed rfl (Nat.le_of_ble_eq_true rfl) (Nat.le_of_ble_eq_true rfl) rfl (.inl rfl)

theorem rd32 (id off n : Byte) : Statement (.rd32 id off n) :=
  of_fixed rfl (Nat.le_of_ble_eq_true rfl) (Nat.le_of_ble_eq_true rfl) rfl (.inl rfl)

theorem rdbuf (id off n : Byte) : Statement (.rdbuf id off n) :=
  of_fixed rfl (Nat.le_of_ble_eq_true rfl) (Nat.le_of_ble_eq_true rfl) rfl (.inl rfl)

theorem wr8 (id off n : Byte) (v : BitVec 8) : Statement (.wr8 id off n v) :=
  of_fixed rfl (Nat.le_of_ble_eq_true rfl) (Nat.le_of_ble_eq_true rfl) rfl (.inl rfl)

theorem wr16 (id off n : Byte) (v : BitVec 16) : Statement (.wr16 id off n v) :=
  of_fixed rfl (Nat.le_of_ble_eq_true rfl) (Nat.le_of_ble_eq_true rfl) rfl (.inl rfl)

theorem wr32 (id off n : Byte) (v : BitVec 32) : Statement (.wr32 id off n v) :=
  of_fixed rfl (Nat.le_of_ble_eq_true rfl) (Nat.le_of_ble_eq_true rfl) rfl (.inl rfl)

theorem wrbuf (id off n : Byte) (data : List Byte) : Statement (.wrbuf id off n data) := fun h => by
  simp only [Instr.countOk, Bool.and_eq_true, decide_eq_true_eq, beq_iff_eq] at h
  have hl : (encode (.wrbuf id off n data)).length = 4 + data.length := by simp [encode]; omega
  rw [hl, maxRecord]
  exact ⟨by omega, by omega, fun h => Bool.noConfusion h, 0x13, _, rfl, .inl rfl⟩

theorem mod8 (id off n : Byte) (a o : BitVec 8) : Statement (.mod8 id off n a o) :=
  of_fixed rfl (Nat.le_of_ble_eq_true rfl) (Nat.le_of_ble_eq_true rfl) rfl (.inl rfl)

theorem mod16 (id off n : Byte) (a o : BitVec 16) : Statement (.mod16 id off n a o) :=
  of_fixed rfl (Nat.le_of_ble_eq_true rfl) (Nat.le_of_ble_eq_true rfl) rfl (.inl rfl)

theorem mod32 (id off n : Byte) (a o : BitVec 32) : Statement (.mod32 id off n a o) :=
  of_fixed rfl (Nat.le_of_ble_eq_true rfl) (Nat.le_of_ble_eq_true rfl) rfl (.inl rfl)

theorem cirrdF (region : Byte) (offset count : BitVec 16) : Statement (.cirrdF region offset count) :=
  of_fixed rfl (Nat.le_of_ble_eq_true rfl) (Nat.le_of_ble_eq_true rfl) rfl (.inr (.inl rfl))

theorem cirrdR (region : Byte) (offset count : BitVec 16) : Statement (.cirrdR region offset count) :=
  of_fixed rfl (Nat.le_of_ble_eq_true rfl) (Nat.le_of_ble_eq_true rfl) rfl (.inr (.inr rfl))

theorem trxoff : Statement (.trxoff) := of_command rfl

theorem tx (start : Start) (w4r cca : Bool) : Statement (.tx start w4r cca) := of_command rfl

theorem rx (start : Start) (i : Bool) : Statement (.rx start i) := of_command rfl

theorem setstate (target : Target) : Statement (.setstate target) := of_command rfl

theorem calrx (pgf adc : Bool) : Statement (.calrx pgf adc) := of_command rfl

theorem xtalcomp : Statement (.xtalcomp) := of_command rfl

theorem txpwr (idx : Byte) : Statement (.txpwr idx) := of_command rfl

theorem dbfree : Statement (.dbfree) := of_command rfl

theorem sleep (deep : Bool) : Statement (.sleep deep) := of_command rfl

theorem softreset : Statement (.softreset) := of_command rfl

end Sys2Proof.Laws.Record
end

