-- ==== Sys2Proof/Tests/Slice0.lean ====
section
/-! SUPPORT. The model's own tests: ill-formed terms the checks refuse, records written out from the spec's encoding, small one-step
tests with the values of spec/95_test_vectors.md, and one witness for the hypotheses of each statement. -/

namespace Sys2Proof.Machine.Tests

/-! ### Helpers -/

/-- What a result's next state shows; none where there is no next state. -/
def shown {α : Type} (r : Res) (f : State → α) : Option α :=
  match r with
  | .next t => some (f t)
  | .fault _ => none
  | .refused _ => none

/-- Why a result is refused. -/
def refusal (r : Res) : Option Refusal :=
  match r with
  | .next _ => none
  | .fault _ => none
  | .refused e => some e

/-- The fault of a result. -/
def faultOf (r : Res) : Option Fault :=
  match r with
  | .next _ => none
  | .fault e => some e
  | .refused _ => none

/-- After reset, taken to a locus with the PLL locked and the receiver calibrated (`CAL_STATUS = 0x07`). -/
def ready (l : Locus) : State :=
  { State.reset with locus := l, cal := { pllLocked := true, pgfDone := true, adcDone := true, cfgUndef := false } }

/-- `IDLE_PLL` with `CAL_STATUS = 0x07`. -/
abbrev idle : State := ready .idlePll

/-- `s` with `SYS_CFG` at a value. -/
def withCfg (c : BitVec 32) (s : State) : State := { s with saved := { s.saved with sysCfg := c } }

/-- `s` with `AON_CFG` at a value. -/
def withAon (a : BitVec 16) (s : State) : State := { s with aonCfg := a }

/-- `SYS_STATE` as the host reads it. -/
def sysState (s : State) : BitVec 8 := sysStateByte s

/-- An empty measurement record. -/
def meas0 : Meas := default

/-! ### Ill-formed terms -/

theorem test_wf_refuses_count : Instr.wellFormed (.rd16 0x0A 0 1) = false := by decide

theorem test_wf_refuses_buffer_length : Instr.wellFormed (.wrbuf 0x08 0 5 [0, 16, 0]) = false := by decide

theorem test_wf_refuses_region : Instr.wellFormed (.cirrdF 3 0 1) = false := by decide

theorem test_wf_refuses_start : Instr.wellFormed (.tx .rsv5 false false) = false := by decide

theorem test_wf_refuses_delayed_cca : Instr.wellFormed (.tx .dlyAbs false true) = false := by decide

theorem test_wf_refuses_target : Instr.wellFormed (.setstate .rsv3) = false := by decide

theorem test_wf_refuses_empty_calrx : Instr.wellFormed (.calrx false false) = false := by decide

theorem test_wf_refuses_hidden_command : Instr.wellFormed (.wr16 0x05 0 2 0x3001) = false := by decide

theorem test_wf_takes_every_form :
    ([.rd8 2 0 1, .rd16 4 2 2, .rd32 0 0 4, .rdbuf 7 0 5, .wr8 0x27 0 1 0x2A, .wr16 0x0A 0 2 0x4015, .wr32 4 0 4 0x82,
      .wrbuf 8 0 5 [0, 16, 0, 0, 0], .mod8 1 0 1 0xE7 8, .mod16 0x15 0 2 0xC000 0x7D, .mod32 0x0E 0 4 0xFFFFFBFF 0,
      .cirrdF 0 5 1, .cirrdR 0 6 1, .trxoff, .tx .dlyRs true false, .rx .dlyAbs true, .setstate .idle, .calrx true true,
      .xtalcomp, .txpwr 0x28, .dbfree, .sleep true, .softreset] : List Instr).all Instr.wellFormed = true := by decide

/-! ### Decoding: one record per constructor, its octets written out from rules R81 to R89 (tag, id, offset, count, data) -/

theorem test_decode_rd8 : decode [0b00000000, 0x02, 0x00, 0x01] = .ok (.rd8 2 0 1, []) := by decide
theorem test_decode_rd16 : decode [0b00000001, 0x04, 0x02, 0x02] = .ok (.rd16 4 2 2, []) := by decide
theorem test_decode_rd32 : decode [0b00000010, 0x07, 0x01, 0x04] = .ok (.rd32 7 1 4, []) := by decide
theorem test_decode_rdbuf : decode [0b00000011, 0x0C, 0x00, 0x05] = .ok (.rdbuf 0x0C 0 5, []) := by decide
theorem test_decode_wr8 : decode [0b00010000, 0x27, 0x00, 0x01, 0x2A] = .ok (.wr8 0x27 0 1 0x2A, []) := by decide
theorem test_decode_wr16 : decode [0b00010001, 0x0A, 0x00, 0x02, 0x15, 0x40] = .ok (.wr16 0x0A 0 2 0x4015, []) := by decide
theorem test_decode_wr32 : decode [0b00010010, 4, 0, 4, 0x44, 0x33, 0x22, 0x11] = .ok (.wr32 4 0 4 0x11223344, []) := by decide
theorem test_decode_wrbuf : decode [0b00010011, 8, 0, 5, 0, 0x10, 0, 0, 0] = .ok (.wrbuf 8 0 5 [0, 0x10, 0, 0, 0], []) := by decide
theorem test_decode_mod8 : decode [0b00100000, 0x0E, 1, 1, 0xFB, 0x04] = .ok (.mod8 0x0E 1 1 0xFB 0x04, []) := by decide
theorem test_decode_mod16 : decode [0b00100001, 0x15, 0, 2, 0, 0xC0, 0x7D, 0] = .ok (.mod16 0x15 0 2 0xC000 0x007D, []) := by decide
theorem test_decode_mod32 :
    decode [0b00100010, 0x0E, 0, 4, 0xFF, 0xFB, 0xFF, 0xFF, 1, 2, 3, 4] = .ok (.mod32 0x0E 0 4 0xFFFFFBFF 0x04030201, []) := by decide
theorem test_decode_cirrdF : decode [0b00110000, 0x00, 0xF7, 0x03, 0x01, 0x00] = .ok (.cirrdF 0 1015 1, []) := by decide
theorem test_decode_cirrdR : decode [0b00110001, 0x02, 0x06, 0x00, 0x00, 0x01] = .ok (.cirrdR 2 6 256, []) := by decide
theorem test_decode_trxoff : decodeCommand 0b0000000000000000 = some .trxoff := by decide
theorem test_decode_tx : decodeCommand 0b0001000000001011 = some (.tx .dlyRs true false) := by decide
theorem test_decode_tx_cca : decodeCommand 0b0001000000010000 = some (.tx .imm false true) := by decide
theorem test_decode_rx : decodeCommand 0b0010000000001001 = some (.rx .dlyAbs true) := by decide
theorem test_decode_setstate : decodeCommand 0b0011000000000010 = some (.setstate .idle) := by decide
theorem test_decode_calrx : decodeCommand 0b0100000000000010 = some (.calrx false true) := by decide
theorem test_decode_xtalcomp : decodeCommand 0b0101000000000000 = some .xtalcomp := by decide
theorem test_decode_txpwr : decodeCommand 0b0110000000101000 = some (.txpwr 0x28) := by decide
theorem test_decode_dbfree : decodeCommand 0b0111000000000000 = some .dbfree := by decide
theorem test_decode_sleep : decodeCommand 0b1000000000000001 = some (.sleep true) := by decide
theorem test_decode_softreset : decodeCommand 0b1001000000000000 = some .softreset := by decide

/-- A command word travels as `WR16 CMD, 0` (spec/95 P1, step 7). -/
theorem test_decode_command_record : decode [0x11, 0x05, 0x00, 0x02, 0x02, 0x30] = .ok (.setstate .idle, []) := by decide

/-- Table 4, rows 9 and 10, and table 5, row 8: words that are no command. -/
theorem test_decode_no_command :
    decodeCommand 0xA000 = none ∧ decodeCommand 0x0001 = none ∧ decodeCommand 0x1020 = none ∧ decodeCommand 0x6128 = none := by
  decide

/-- Table 3, row 15. -/
theorem test_decode_reserved_tag : decode [0x04, 0x00, 0x00, 0x01] = .error (.reservedTag 0x04) := by decide

theorem test_table_word :
    decodeTableWord 16 0x1008 = some (.tx .imm true false) ∧ decodeTableWord 8 0x30 = some (.cirrdF 0 0 0) := by decide

/-! ### One step of each instruction (values of spec/95_test_vectors.md) -/

/-- Table 3, row 1. -/
theorem test_rd8 : shown (exec (.rd8 0x02 0 1) State.reset) (·.response) = some [0x00] := by decide

/-- Table 3, row 7: no alignment requirement. -/
theorem test_rd16 :
    shown (exec (.rd16 0x04 1 2) { State.reset with saved.sysEnable := 0x11223344 }) (·.response) = some [0x33, 0x22] := by decide

/-- Table 3, row 10: the hi32 read. -/
theorem test_rd32 :
    shown (exec (.rd32 0x07 1 4) { State.reset with sysTime := 0x12345678AB }) (·.response) = some [0x78, 0x56, 0x34, 0x12] := by decide

/-- Table 3, row 12. -/
theorem test_rd32_out_of_bounds : refusal (exec (.rd32 0x07 2 4) State.reset) = some .outOfBounds := by decide

/-- Table 3, row 11. -/
theorem test_rdbuf :
    shown (exec (.rdbuf 0x07 0 5) { State.reset with sysTime := 0x12345678AB }) (·.response) =
      some [0xAB, 0x78, 0x56, 0x34, 0x12] := by decide

/-- Table 3, row 8. -/
theorem test_wr8 :
    shown (exec (.wr8 0x04 3 1 0xAA) { State.reset with saved.sysEnable := 0x11223344 }) (·.saved.sysEnable) = some 0xAA223344 := by
  decide

/-- Table 3, row 19: `WR8 CMD` is `CmdErr`. -/
theorem test_wr8_cmd :
    shown (exec (.wr8 0x05 0 1 0x00) State.reset) (fun t => (t.cmdResult, t.sysStatus)) = some (0xFF, 0x00180000) := by decide

/-- S3. -/
theorem test_wr16 : shown (exec (.wr16 0x0A 0 2 0x4015) State.reset) (·.saved.txAntd) = some 0x4015 := by decide

/-- Section 7, invalidation: a channel change drops the PLL lock and both receive calibrations, and `IDLE_PLL`. -/
theorem test_wr16_channel :
    shown (exec (.wr16 0x0F 0 2 0x0001) idle) (fun t => (calStatusByte t.cal, sysState t)) = some (0x00, 0x01) := by decide

/-- Table 3, row 26: write one to clear. -/
theorem test_wr32 :
    shown (exec (.wr32 0x03 0 4 0x000040DC) { State.reset with sysStatus := 0x001040DE }) (·.sysStatus) = some 0x00100002 := by decide

/-- Table 6, row 31: leaving double-buffer mode resets the pointers. -/
theorem test_wr32_leaves_db :
    shown (exec (.wr32 0x01 0 4 0) (withCfg 5 { idle with db := ⟨true, false, true, false⟩ })) (fun t => dbStatusByte t.db) =
      some 0x00 := by decide

/-- Table 3, row 18. -/
theorem test_wrbuf : shown (exec (.wrbuf 0x08 0 5 [0, 0x10, 0, 0, 0]) State.reset) (·.dxTime) = some 0x0000001000 := by decide

/-- S2: the byte form of the `TXBR` field. -/
theorem test_mod8 :
    shown (exec (.mod8 0x0E 1 1 0xFB 0x04) { State.reset with saved.txFctrl := 0xFFFFFBFF }) (·.saved.txFctrl) = some 0xFFFFFFFF := by
  decide

/-- S9. -/
theorem test_mod16 :
    shown (exec (.mod16 0x15 0 2 0xC000 0x007D) { State.reset with saved.ciaAdjust := 0xC000 }) (·.saved.ciaAdjust) = some 0xC07D := by
  decide

/-- Section 7, invalidation: a data-rate change drops both receive calibrations and keeps the PLL. -/
theorem test_mod32 :
    shown (exec (.mod32 0x0E 0 4 0xFFFFFBFF 0x00000400) { idle with saved.txFctrl := 0x80C })
      (fun t => (t.saved.txFctrl, calStatusByte t.cal)) = some (0x00000C0C, 0x01) := by decide

/-- Table 3, row 21. -/
theorem test_mod32_status : refusal (exec (.mod32 0x03 0 4 0xFFFFFFFF 0) State.reset) = some .modOnSpecial := by decide

/-- The CIR of table 3, rows 32 to 36, with samples 0 and 1 of region 0 for its samples 5 and 6. -/
def cirState : State := { idle with cir := runCells (cirAddr 0 0 0) [⟨0xFFFFFE, 0x000003⟩, ⟨0x7FFFFF, 0x800000⟩] }

/-- A `CIRRD` in range at an open port. -/
theorem cirRead_runs (s : State) (region : Byte) (o c : BitVec 16) (ks : List Nat) (r : Fin 3) (ha : asleep s = false)
    (hd : due s = none) (hr : regionOf region = some r) (h : o.toNat + c.toNat ≤ Config.cirLen r) :
    portCirRead region o c ks s = .next { s with
      response := cirResponse { s with response := [] } (cirAddrs r o.toNat c.toNat ks)
      draws := s.draws + (1 + (cirAddrs r o.toNat c.toNat ks).length) } := by
  simp [portCirRead, atPort, ha, hd, hr, h]

/-- Table 3, row 32; every region has a sample 0. -/
theorem test_cirrdF : shown (exec (.cirrdF 0 0 1) cirState) (·.response.drop 1) = some [0xFE, 0xFF, 0xFF, 0x03, 0x00, 0x00] := by
  rw [show exec (.cirrdF 0 0 1) cirState = portCirRead 0 0 1 [0, 1, 2, 3, 4, 5] cirState from rfl, cirRead_runs _ _ _ _ _ 0 (by decide) (by decide) (by decide) (by simp [Config.cirLen])]
  decide

/-- Table 3, row 36. -/
theorem test_cirrdR : shown (exec (.cirrdR 0 0 1) cirState) (·.response.drop 1) = some [0xFF, 0xFF, 0x00, 0x00] := by
  rw [show exec (.cirrdR 0 0 1) cirState = portCirRead 0 0 1 [1, 2, 4, 5] cirState from rfl, cirRead_runs _ _ _ _ _ 0 (by decide) (by decide) (by decide) (by simp [Config.cirLen])]
  decide

/-- Table 3, row 40. -/
theorem test_cirrd_region : refusal (exec (.cirrdF 3 0 1) idle) = some .reservedRegion := by decide

/-- Table 4, row 11: `TRXOFF` in `(RX, HUNT)`. -/
theorem test_trxoff :
    shown (exec .trxoff { ready (.rx .hunt) with dl := { Deadlines.none with pre := some 5 }, sysStatus := 0x0C })
      (fun t => (sysState t, t.dl, t.sysStatus)) = some (0x02, Deadlines.none, 0x0010000C) := by decide

/-- Table 4, row 13: busy. -/
theorem test_trxoff_busy :
    shown (exec .trxoff { ready .idleRc with calfsm := .pll 0 0 }) (fun t => (t.cmdResult, t.sysStatus)) = some (0xFF, 0x00180000) := by
  decide

/-- Table 5, row 1. -/
theorem test_tx : shown (exec (.tx .imm false false) idle) (fun t => (sysState t, t.cmdResult, t.sysStatus)) =
    some (0x33, 0x00, 0x00100000) := by decide

/-- Table 5, row 9: `W4R` without receive calibration. -/
theorem test_tx_w4r : shown (exec (.tx .imm true false) { idle with cal := ⟨true, false, false, false⟩ }) (·.sysStatus) =
    some 0x00180000 := by decide

/-- Table 6, row 17: a receiver that is not calibrated. -/
theorem test_rx_uncalibrated : shown (exec (.rx .imm false) { idle with cal := ⟨true, false, false, false⟩ }) (·.sysStatus) =
    some 0x00180000 := by decide

/-- Table 6, row 20: late with `IDLE_ON_DLY_ERR`. -/
theorem test_rx_late :
    shown (exec (.rx .dlyAbs true) { idle with sysTime := 0x1000, dxTime := 0xFFF })
      (fun t => (sysState t, t.cmdResult, t.sysStatus)) = some (0x02, 0xFF, 0x00108000) := by decide

/-- Table 4, row 2. -/
theorem test_setstate : shown (exec (.setstate .idle) (ready .idleRc)) (fun t => (sysState t, t.sysStatus)) = some (0x81, 0) := by
  decide

/-- Table 4, row 6: the PLL is unlocked, the receive calibration is kept. -/
theorem test_setstate_rc : shown (exec (.setstate .idleRc) idle) (fun t => (sysState t, calStatusByte t.cal)) = some (0x01, 0x06) := by
  decide

/-- P1, step 11: `CALRX PGF ADC`. -/
theorem test_calrx : shown (exec (.calrx true true) idle) (fun t => (sysState t, t.calfsm)) = some (0x82, .pgf 0 true) := by decide

/-- Section 7: `CALRX` in `INIT` is `CmdErr`. -/
theorem test_calrx_init : shown (exec (.calrx true true) (ready .init)) (·.cmdResult) = some 0xFF := by decide

/-- `XTALCOMP` completes in `IDLE_PLL` (rule R238). -/
theorem test_xtalcomp : shown (exec .xtalcomp idle) (fun t => (t.cmdResult, t.sysStatus)) = some (0x00, 0x00100000) := by decide

/-- Rule R239, rows 1, 3, 4, 5 and 6: the corrections in trim codes. -/
theorem test_xtal_correction :
    xtalCorrection 0x00200000 0 20 = 10 ∧ xtalCorrection 0x00200000 0 (-40) = -20 ∧
    xtalCorrection 0x00200000 0x00004000 20 = 11 ∧ xtalCorrection 0xFFE00000 0 1 = -1 ∧ xtalCorrection 0xFFE00000 0 100 = -50 := by
  decide

/-- `TXPWR` completes and touches no calibration (rule R242). -/
theorem test_txpwr : shown (exec (.txpwr 0x28) idle) (fun t => (t.cmdResult, calStatusByte t.cal)) = some (0x00, 0x07) := by decide

/-- Table 6, row 26. -/
theorem test_dbfree :
    shown (exec .dbfree (withCfg 5 { idle with db := ⟨false, false, true, true⟩ })) (fun t => (dbStatusByte t.db, t.stale0)) =
      some (0x0A, true) := by decide

/-- Table 6, row 28. -/
theorem test_dbfree_nothing : shown (exec .dbfree (withCfg 5 idle)) (·.sysStatus) = some 0x00180000 := by decide

/-- Table 4, row 16. -/
theorem test_sleep : shown (exec (.sleep false) (withAon 0x0015 idle)) (fun t => (sysState t, irq t)) = some (0x05, false) := by decide

/-- Table 4, row 15. -/
theorem test_sleep_disabled : shown (exec (.sleep false) idle) (·.cmdResult) = some 0xFF := by decide

/-- Table 4, row 22. -/
theorem test_softreset :
    shown (exec .softreset { ready .idleRc with cal := ⟨true, false, false, true⟩, sysStatus := 0x00100000, aonCfg := 5 })
      (fun t => (sysState t, t.sysStatus, calStatusByte t.cal, t.aonCfg)) = some (0x00, 0, 0x00, 0) := by decide

/-- Table 4, row 23: after a calibration failure. -/
theorem test_cfg_undef : refusal (exec (.setstate .idle) { ready .idleRc with cal := ⟨false, false, false, true⟩ }) = some .cfgUndef := by
  decide

/-! ### The other agents -/

/-- Table 4, row 3: lock at the first poll. -/
theorem test_pll_lock :
    shown (calStep { (default : CalDraw) with lock := true, cc := 0x1234 } { State.reset with locus := .idleRc, calfsm := .pll 0 0 })
      (fun t => (sysState t, calStatusByte t.cal, t.saved.pllCc, t.sysStatus)) = some (0x02, 0x01, 0x00001234, 0x00100001) := by decide

/-- Section 7: the hundredth miss. -/
theorem test_pll_miss :
    shown (calStep default { State.reset with locus := .idleRc, calfsm := .pll 1 49 })
      (fun t => (sysState t, calStatusByte t.cal, t.cmdResult, t.sysStatus)) = some (0x01, 0x08, 0xFE, 0x00100000) := by decide

/-- Table 6, rows 2 and 3: the SFD stamps the raw arrival time. -/
theorem test_sfd : shown (airStep .sfdDetect { ready (.rx .sfdWait) with sysTime := 0x400, sysStatus := 0x00100004 })
    (fun t => (sysState t, t.rxRaw, t.sysStatus)) = some (0x54, 0x400, 0x0010000C) := by decide

/-- A reception whose PHY header is good (after table 6, row 4). -/
abbrev receivingFrame : State := { ready (.rx .data) with phrOk := true, sysStatus := 0x0010001C }

/-- Table 6, row 5. -/
theorem test_good_frame :
    shown (airStep (.frameEnd .good 12 true meas0) receivingFrame)
      (fun t => (t.sysStatus, t.buf0.rxFinfo, sysState t, dbStatusByte t.db)) = some (0x001040DC, 0x0000040C, 0x02, 0x00) := by decide

/-- Table 6, rows 8 and 9. -/
theorem test_bad_frames :
    shown (airStep (.frameEnd .crcErr 12 true meas0) receivingFrame) (·.sysStatus) = some 0x0010015C ∧
    shown (airStep (.frameEnd .rsErr 12 true meas0) receivingFrame) (·.sysStatus) = some 0x0010021C := by decide

/-- Table 6, row 15: two timeouts of one instant. -/
theorem test_timeouts :
    shown (step { ready (.rx .hunt) with dl := { Deadlines.none with fwto := some 0, pre := some 0 }, sysStatus := 0x00100000 })
      (fun t => (t.sysStatus, sysState t)) = some (0x00100C00, 0x02) := by decide

/-- Table 5, row 14: sleep at the end of a frame. -/
theorem test_tx_end_sleep :
    shown (step (withAon 0x0021 { ready (.tx .data) with dl := { Deadlines.none with txend := some 0 } })) sysState = some 0x05 := by
  decide

/-- Table 6, row 24: the second frame fills set 1, and re-enabling finds set 0 full. -/
theorem test_second_frame :
    shown (airStep (.frameEnd .good 20 false meas0) (withCfg 5 { receivingFrame with db := ⟨true, false, true, false⟩ }))
      (fun t => (dbStatusByte t.db, sysState t, t.sysStatus, t.buf1.rxFinfo)) = some (0x0C, 0x02, 0x001240DC, 0x00000014) := by decide

/-- Table 4, row 17: a wake with restore. -/
theorem test_wake :
    shown (step (withAon 0x0015 { ready .sleep with aonSnapshot := { Saved.reset with sysEnable := 0x82 }, agenda := [.wakePin] }))
      (fun t => (sysState t, t.sysStatus, t.saved.sysEnable, calStatusByte t.cal)) = some (0x00, 0x00400000, 0x82, 0x00) := by decide

/-- Table 4, row 19: `WakeCS` with `WAKE_CS = 0`. -/
theorem test_wake_disabled :
    shown (step (withAon 0x0005 { ready .sleep with agenda := [.wakeCs] })) sysState = some 0x05 := by decide

/-- Section 3: asleep, no port operation has a step. -/
theorem test_port_closed : faultOf (exec (.rd8 2 0 1) (ready .sleep)) = some .portClosed := by decide

/-! ### Results and host routines -/

/-- Table 5, first table: the late predicate. -/
theorem test_late :
    late 0x0000001000 0x0000001000 = false ∧ late 0x0000000FFF 0x0000001000 = true ∧ late 0x8000000FFF 0x0000001000 = false ∧
    late 0x8000001000 0x0000001000 = true ∧ late 0x0000000100 0xFFFFFFFF00 = false := by decide

/-- Section 2. -/
theorem test_preamble :
    ([16, 24, 64, 2040, 2048, 4096] : List Nat).all preambleValid = true ∧
    ([0, 8, 15, 20, 2047, 2056, 4088, 4095, 4104, 8184] : List Nat).all (fun l => !preambleValid l) = true := by decide

/-- Table T: -101 and 2^40 - 1, and the gate. -/
theorem test_tdoa :
    tdoaOf 101 0 = 0x01FFFFFFFF9B ∧ tdoaOf 0 0xFFFFFFFFFF = 0x00FFFFFFFFFF ∧ tdoaValue [0x9B, 0xFF, 0xFF, 0xFF, 0xFF, 0x01] = -101 ∧
    tdoaValid 100 = true ∧ tdoaValid 101 = false ∧ tdoaValid (-101) = false := by decide

/-- The PDOA table, rows 1, 3, 8, 9 and 10. -/
theorem test_pdoa :
    pdoaPacked (pdoaWrapped 0x0400 0x3C00 125) = 0x387D ∧ pdoaPacked (pdoaWrapped 0x3000 0x0C00 0) = 0x29BC ∧
    pdoaPacked (pdoaWrapped 0 0x1921 1) = 0x26DE ∧ pdoaPacked (pdoaWrapped 0x0001 0x26DE 0) = 0x1921 ∧
    pdoaPacked (pdoaWrapped 0 0x1FFF 0x3FFF) = 0x3B76 := by decide

/-- Rule R200's cases. -/
theorem test_sts_reliable :
    stsReliable 0x0010 0 = true ∧ stsReliable 0 0 = true ∧ stsReliable 0xFFFF 0 = false ∧ stsReliable 0x0010 1 = false := by decide

/-- What a host routine does when its operations are answered with these octets and every awaited bit is set: the operations and the
callbacks' snapshots, and what it returns. `fuel` bounds the number of actions. -/
def playback {α : Type} : Nat → List (List Byte) → Routine α → List (Instr ⊕ Snapshot) × Option α
  | 0, _, _ => ([], none)
  | _ + 1, _, .done a => ([], some a)
  | fuel + 1, answers, .op i next =>
    let p := playback fuel answers.tail (next (answers.headD []))
    (.inl i :: p.1, p.2)
  | fuel + 1, answers, .await _ next => playback fuel answers next
  | fuel + 1, answers, .call _ snap next =>
    let p := playback fuel answers (next false)
    (.inr snap :: p.1, p.2)

/-- Section 8: the dispatch of `0x001040DE` serves TX-done, then RX-good, each once, the frame's length and flag in the snapshot. -/
theorem test_dispatch :
    playback 9 [[0xDE, 0x40, 0x10, 0x00], [], [0x0C, 0x04, 0x00, 0x00]] (dispatch false false) =
      ([.inl (.rd32 3 0 4), .inl (.wr32 3 0 4 0x00000002), .inr ⟨0x001040DE, false, none⟩, .inl (.rd32 0x17 0 4),
        .inr ⟨0x001040DE, false, some ⟨12, true⟩⟩, .inl (.wr32 3 0 4 0x000040DC)], some ()) := by decide

/-- Rule R95: `setdwstate` returns the result code as a signed number (`DWT_ERR_PLL_LOCK` is -2). -/
theorem test_setdwstate :
    playback 9 [[], [], [0xFE]] (setdwstate .idle) =
      ([.inl (.setstate .idle), .inl (.wr32 3 0 4 0x00100000), .inl (.rd8 6 0 1)], some (-2)) := by decide

/-- Rule R95: `configure` with a preamble length that is not valid is `DWT_ERROR` and writes nothing. -/
theorem test_configure_preamble : playback 9 [] (configure ⟨0, 20, false, 0, 0⟩) = ([], some (-1)) := by decide

/-- Rule R95: the lo32 and hi32 forms of a timestamp. -/
theorem test_readtimestamp :
    playback 2 [[0xAB, 0x78, 0x56, 0x34]] (readtimestampLo .tx) = ([.inl (.rd32 0x0C 0 4)], some 0x345678AB) ∧
    playback 2 [[0x78, 0x56, 0x34, 0x12]] (readtimestampHi .tx) = ([.inl (.rd32 0x0C 1 4)], some 0x12345678) := by decide

/-- Rule R110: a CIR read drops the dummy octet of each piece and decodes the rest (table 3, row 32). -/
theorem test_readcir :
    playback 3 [[0x55, 0xFE, 0xFF, 0xFF, 0x03, 0x00, 0x00]] (readcir true 0 5 1) =
      ([.inl (.cirrdF 0 5 1)], some [(0xFFFFFFFE, 0x00000003)]) := by decide

/-- Section 9: reset. -/
theorem test_reset :
    (sysState State.reset, State.reset.saved.phyCfg, dbStatusByte State.reset.db, irq State.reset) = (0x00, 0x00000040, 0x00, false) := by
  decide

/-! ### Witnesses: the hypotheses of each statement, met on concrete states and operands, clause by clause -/

/-- `s` with an agenda. -/
def withAgenda (l : List Action) (s : State) : State := { s with agenda := l }

theorem witness_decode_of_encode :
    Instr.wellFormed (.wrbuf 0x08 0 1 [7]) = true ∧ Instr.wellFormed (.rdbuf 0x23 0 20) = true ∧ Instr.wellFormed (.cirrdR 2 0 0) = true :=
  by decide

theorem witness_encode_of_decode :
    decode [0x13, 8, 0, 2, 5, 6, 7] = .ok (.wrbuf 8 0 2 [5, 6], [7]) ∧ decode [0x11, 5, 0, 2, 0, 0x90] = .ok (.softreset, []) := by decide

theorem witness_step_runs_decoded :
    let s := withAgenda [.port [0x00, 0x02, 0x00, 0x01] true, .tick] idle
    s.refused = false ∧ due s = none ∧ decode [0x00, 0x02, 0x00, 0x01] = .ok (.rd8 2 0 1, []) ∧
    decode (tableRecord 16 0x1000) = .ok (.tx .imm false false, []) := by decide

theorem witness_step_order :
    ({ idle with refused := true } : State).refused = true ∧
    (due { ready (.tx .shr) with dl := { Deadlines.none with rmark := some 0 } } = some .rmarker) ∧
    (idle.refused = false ∧ due idle = none ∧ idle.agenda = [] ∧ (withAgenda [.tick] idle).agenda = .tick :: []) := by decide

theorem witness_port_closed :
    asleep (ready .sleep) = true ∧ asleep (ready .deepSleep) = true ∧
    (asleep (ready (.rx .hunt)) = false ∧ due { ready (.rx .hunt) with dl := { Deadlines.none with fwto := some 0 } } ≠ none) := by
  decide

theorem witness_octets_little_endian : (20 : Nat) ≤ 20 ∧ regOctets .sysTime = 5 ∧ regOctets .rxStampIp = 5 := by decide

theorem witness_reads_return_octets :
    PortReady idle ∧ Reads (.rdbuf 0x23 0 20) .ipDiag 0 20 ∧ 0 + 20 ≤ regOctets .ipDiag ∧ staleAt idle idle.db.hostBuf = false ∧
    Reads (.rd8 0x02 0 1) .sysState 0 1 ∧ 0 + 1 ≤ regOctets .sysState ∧ Reads (.rd32 0x07 1 4) .sysTime 1 4 ∧
    1 + 4 ≤ regOctets .sysTime ∧ Reads (.rd16 0x04 2 2) .sysEnable 2 2 ∧ 2 + 2 ≤ regOctets .sysEnable := by
  simp only [Reads]
  decide

theorem witness_stale_reads_are_free :
    PortReady { idle with stale0 := true } ∧ Reads (.rd32 0x17 0 4) .rxFinfo 0 4 ∧ 0 + 4 ≤ regOctets .rxFinfo ∧ regBuffered .rxFinfo = true ∧
    staleAt { idle with stale0 := true } false = true := by
  simp only [Reads]
  decide

theorem witness_store_rw :
    PortReady idle ∧ crcGood idle = true ∧ Stores (.wr8 0x04 3 1 0xAA) idle .sysEnable 3 1 0xAA ∧ 3 + 1 ≤ regOctets .sysEnable ∧ regAccess .sysEnable = .rw ∧
    locked .sysEnable idle = false ∧ locked .chanCtrl idle = false ∧ Stores (.wr16 0x0F 0 2 1) idle .chanCtrl 0 2 1 ∧
    Stores (.wr32 0x01 0 4 5) idle .sysCfg 0 4 5 ∧ Stores (.wrbuf 0x08 0 5 [1, 2, 3, 4, 5]) idle .dxTime 0 5 0x0504030201 ∧
    Stores (.mod8 0x0E 1 1 0xFB 4) idle .txFctrl 1 1 4 ∧ Stores (.mod16 0x15 0 2 0xC000 0x7D) idle .ciaAdjust 0 2 0x7D ∧
    Stores (.mod32 0x10 0 4 0xFFFFFFFF 1) idle .phyCfg 0 4 0x41 := by
  simp only [Stores]
  decide

theorem witness_store_reads_back :
    PortReady idle ∧ crcGood idle = true ∧ Stores (.wr8 0x27 0 1 0x2A) idle .xtalTrim 0 1 0x2A ∧ regOfId 0x27 = some .xtalTrim ∧
    0 + 1 ≤ regOctets .xtalTrim ∧ regAccess .xtalTrim = .rw ∧ locked .xtalTrim idle = false := by
  simp only [Stores]
  decide

theorem witness_store_ro_and_cmd :
    PortReady idle ∧ crcGood idle = true ∧ Stores (.wr32 0x00 0 4 0) idle .devId 0 4 0 ∧ 0 + 4 ≤ regOctets .devId ∧ regAccess .devId = .ro ∧
    Stores (.mod8 0x02 0 1 0 1) idle .sysState 0 1 1 ∧ regAccess .sysState = .ro ∧
    Stores (.wr32 0x03 0 4 0xFF800000) idle .sysStatus 0 4 0xFF800000 ∧
    ((0xFF800000 : Wide) <<< (8 * 0)).extractLsb' 0 23 = 0 ∧ idle.sysStatus >>> 23 = 0 ∧
    Stores (.wr8 0x05 0 1 0) idle .cmd 0 1 0 ∧ Stores (.wrbuf 0x05 0 2 [0, 0]) idle .cmd 0 2 0 ∧ 0 + 2 ≤ regOctets .cmd := by
  simp only [Stores]
  decide

theorem witness_store_status_clears :
    let s := withCfg 3 { idle with db := ⟨true, false, true, false⟩, sysStatus := 0x80 }
    PortReady s ∧ crcGood s = true ∧ Stores (.wr8 0x03 3 1 1) s .sysStatus 3 1 1 ∧ 3 + 1 ≤ 4 ∧
    Stores (.wr8 0x03 0 1 0x80) s .sysStatus 0 1 0x80 ∧
    (s.sysStatus &&& ~~~(((0x80 : Wide) <<< (8 * 0)).setWidth 32)).getLsbD 7 = false ∧ dbEnOf s.saved.sysCfg = true ∧
    dbAutoOf s.saved.sysCfg = true ∧ s.db.full s.db.hostBuf = true := by
  simp only [Stores]
  decide

theorem witness_modify_special_refused :
    PortReady idle ∧ Stores (.mod32 0x03 0 4 0 0) idle .sysStatus 0 4 0 ∧ 0 + 4 ≤ regOctets .sysStatus ∧ isModify (.mod32 0x03 0 4 0 0) = true ∧
    Stores (.mod16 0x05 0 2 0 0) idle .cmd 0 2 0 ∧ 0 + 2 ≤ regOctets .cmd := by
  simp only [Stores]
  decide

theorem witness_store_locked_refused :
    PortReady (ready (.rx .hunt)) ∧ Stores (.wr16 0x0A 0 2 0) (ready (.rx .hunt)) .txAntd 0 2 0 ∧ 0 + 2 ≤ regOctets .txAntd ∧ active (ready (.rx .hunt)) = true ∧
    (PortReady { idle with calfsm := .adc } ∧ Stores (.wr16 0x34 0 2 0) { idle with calfsm := .adc } .sleepCnt 0 2 0 ∧
      busy { idle with calfsm := .adc } = true) := by
  simp only [Stores]
  decide

theorem witness_bad_accesses_refused :
    PortReady idle ∧ headerOf (.rd16 0x0A 0 1) = some (0x0A, 0, 1) ∧ Instr.countOk (.rd16 0x0A 0 1) = false ∧
    Instr.countOk (.rd8 0x3D 0 1) = true ∧ regOfId 0x3D = none ∧ regOfId 0x07 = some .sysTime ∧ regOctets .sysTime < 2 + 4 := by
  decide

theorem witness_bad_records :
    let s := withAgenda [.port [0x04, 0, 0, 1] true] idle
    s.refused = false ∧ PortReady s ∧ decode [0x04, 0, 0, 1] = .error (.reservedTag 0x04) ∧ decode [0x00, 2, 0] = .error .truncated ∧
    decode [0x00, 2, 0, 1, 9] = .ok (.rd8 2 0 1, [9]) := by decide

theorem witness_bad_cir_accesses :
    3 ≤ (3#8).toNat ∧ (2#8).toNat = (2 : Fin 3).val ∧ Config.cirLen 2 < (1016#16).toNat + (1#16).toNat := by
  have h := (Config.cirLenPred 2).isLt
  refine ⟨by decide, by decide, ?_⟩
  simp only [Config.cirLen, show (1016#16).toNat = 1016 from rfl, show (1#16).toNat = 1 from rfl]
  omega

theorem witness_store_bad_crc :
    let s := withCfg 0x80 { idle with crcOk := false }
    PortReady s ∧ crcGood s = false ∧ Stores (.wr16 0x0A 0 2 0x1111) s .txAntd 0 2 0x1111 ∧ 0 + 2 ≤ regOctets .txAntd ∧ locked .txAntd s = false := by
  simp only [Stores]
  decide

theorem witness_cirrd_completes :
    PortReady idle ∧ (0#8).toNat = (0 : Fin 3).val ∧ (0#16).toNat + (0#16).toNat ≤ Config.cirLen 0 ∧
    (0#16).toNat + (1#16).toNat ≤ Config.cirLen 0 ∧ Memory.read cirState.cir (cirAddr 0 0 5) = some 0x00 := by
  refine ⟨by decide, by decide, ?_, ?_, by decide⟩ <;> simp [Config.cirLen]

/-- A measurement whose region 0 is full. -/
def fullMeas : Meas := { meas0 with cir0 := Vector.replicate (Config.cirLen 0) ⟨0xFFFFFE, 0x000003⟩ }

theorem witness_cir_read_after_frame :
    ∃ t, airStep (.frameEnd .good 12 true fullMeas) receivingFrame = .next t ∧ PortReady t ∧ (0#8).toNat = (0 : Fin 3).val ∧
      (0#16).toNat + (1#16).toNat ≤ Config.cirLen 0 ∧ (samplesOf fullMeas 0)[0]? = some ⟨0xFFFFFE, 0x000003⟩ := by
  refine ⟨_, rfl, ⟨rfl, rfl⟩, rfl, ?_, ?_⟩
  · simp [Config.cirLen]
  · simp [samplesOf, fullMeas, Config.cirLen]

theorem witness_cir_chunks_join :
    PortReady cirState ∧ (0#16).toNat + (1#16).toNat + (0#16).toNat ≤ Config.cirLen 0 ∧
    (∀ k j, k < (1#16).toNat + (0#16).toNat → j < 6 →
      (Memory.read cirState.cir (cirAddr 0 ((0#16).toNat + k) j)).isSome = true) ∧
    (∀ k j, k < (1#16).toNat + (0#16).toNat → (j = 1 ∨ j = 2 ∨ j = 4 ∨ j = 5) →
      (Memory.read cirState.cir (cirAddr 0 ((0#16).toNat + k) j)).isSome = true) := by
  have h (k j : Nat) (hk : k < 1) (hj : j < 6) : (Memory.read cirState.cir (cirAddr 0 ((0#16).toNat + k) j)).isSome = true := by
    obtain rfl : k = 0 := by omega
    have : j = 0 ∨ j = 1 ∨ j = 2 ∨ j = 3 ∨ j = 4 ∨ j = 5 := by omega
    rcases this with rfl | rfl | rfl | rfl | rfl | rfl <;> decide
  exact ⟨by decide, by simp [Config.cirLen], h, fun k j hk hj => h k j hk (by omega)⟩

theorem witness_command_word_runs : decodeCommand 0x9000 = some .softreset ∧ decodeCommand 0x1007 = some (.tx .rsv7 false false) := by
  decide

theorem witness_inadmissible_is_cmderr :
    let u := { ready .idleRc with cal := ⟨false, false, false, true⟩ }
    isCommand (.tx .imm false false) = true ∧ PortReady (ready .init) ∧ crcGood (ready .init) = true ∧
    (ready .init).cal.cfgUndef = false ∧ admitted (.tx .imm false false) (ready .init) = false ∧
    decodeCommand 0xA000 = none ∧ decodeCommand 0x9001 = none ∧ opOf 0x9001 = 9 ∧ PortReady u ∧ u.cal.cfgUndef = true := by decide

theorem witness_commands_refused :
    let u := { ready .idleRc with cal := ⟨false, false, false, true⟩ }
    let v := withCfg 0x80 { idle with crcOk := false }
    isCommand .dbfree = true ∧ PortReady u ∧ crcGood u = true ∧ u.cal.cfgUndef = true ∧ PortReady v ∧ crcGood v = false ∧
    decodeCommand 0xA000 = none ∧ opOf 0xA000 ≠ 9 ∧ decodeCommand 0x9001 = none := by decide

theorem witness_trxoff_completes :
    CommandReady (ready (.tx .wait)) ∧ admitted .trxoff (ready (.tx .wait)) = true ∧ CommandReady (ready .init) ∧
    admitted .trxoff (ready .init) = true := by decide

theorem witness_setstate_completes :
    CommandReady idle ∧ admitted (.setstate .init) idle = true ∧ admitted (.setstate .idleRc) idle = true ∧
    admitted (.setstate .idle) idle = true ∧ idle.locus = .idlePll ∧ CommandReady State.reset ∧
    admitted (.setstate .idle) State.reset = true ∧ State.reset.locus ≠ .idlePll := by decide

theorem witness_sleep_completes :
    CommandReady (withAon 1 idle) ∧ admitted (.sleep true) (withAon 1 idle) = true ∧ admitted (.sleep false) (withAon 1 idle) = true := by
  decide

theorem witness_softreset_completes : PortReady (ready (.rx .data)) ∧ crcGood (ready (.rx .data)) = true := by decide

theorem witness_calrx_starts :
    CommandReady idle ∧ admitted (.calrx true false) idle = true ∧ admitted (.calrx false true) idle = true ∧
    admitted (.calrx true true) (ready .idleRc) = true ∧ CommandReady (ready .idleRc) := by decide

theorem witness_xtalcomp_completes : CommandReady idle ∧ admitted .xtalcomp idle = true := by decide

theorem witness_txpwr_completes : CommandReady idle ∧ admitted (.txpwr 0xFF) idle = true ∧ admitted (.txpwr 0) State.reset = true := by
  decide

theorem witness_dbfree_completes :
    let s := withCfg 5 { idle with db := ⟨false, false, true, true⟩ }
    let a := withCfg 3 { idle with db := ⟨true, false, true, false⟩, sysStatus := 0x001040DC }
    CommandReady s ∧ admitted .dbfree s = true ∧ s.db.full s.db.hostBuf = true ∧ CommandReady (withCfg 5 idle) ∧
    admitted .dbfree (withCfg 5 idle) = true ∧ (withCfg 5 idle).db.full false = false ∧ PortReady a ∧ crcGood a = true ∧
    a.sysStatus.getLsbD 7 = true ∧ dbEnOf a.saved.sysCfg = true ∧ dbAutoOf a.saved.sysCfg = true ∧ a.db.full a.db.hostBuf = true := by
  decide

theorem witness_tx_immediate :
    let s := { idle with saved.preToc := 1 }
    CommandReady s ∧ admitted (.tx .imm true false) s = true ∧ admitted (.tx .imm false true) s = true := by decide

/-- The clear-channel window's two sides: which holds of a count of 1 depends on the parameter `PAC_DTU` alone. -/
theorem witness_tx_cca_window (c : PhyConfig) :
    1 * Config.pacDtu c < 2 ^ 39 ∨ 2 ^ 39 ≤ 1 * Config.pacDtu c := Nat.lt_or_ge _ _

/-- `IDLE_PLL` at time 0 with `DX_TIME` set so that a `TX DLY_ABS` must begin its preamble at `k`. -/
def txAt (k : Time) : State := { idle with dxTime := (Config.shrDtu (cfgOf idle)).setWidth 40 + k }

theorem txAt_start (k : Time) : (0 : Time) + (txAt k).dxTime - (Config.shrDtu (cfgOf (txAt k))).setWidth 40 = k := by
  change (0 : Time) + ((Config.shrDtu (cfgOf idle)).setWidth 40 + k) - (Config.shrDtu (cfgOf idle)).setWidth 40 = k
  simp [BitVec.add_comm]

theorem witness_tx_delayed :
    (∀ k : Time, CommandReady (txAt k) ∧ admitted (.tx .dlyAbs false false) (txAt k) = true ∧
      k = 0 + (txAt k).dxTime - (Config.shrDtu (cfgOf (txAt k))).setWidth 40 ∧ (txAt k).sysTime = 0) ∧
    2 ^ 39 ≤ ((0x8000000000 : Time) - 0).toNat ∧ ((0x7FFFFFFFFF : Time) - 0).toNat < 2 ^ 39 ∧ (0x7FFFFFFFFF : Time) ≠ 0 := by
  have h : admitted (.tx .dlyAbs false false) idle = true := by decide
  exact ⟨fun k => ⟨⟨⟨rfl, rfl⟩, rfl, rfl⟩, h, (txAt_start k).symm, rfl⟩, by decide⟩

theorem witness_tx_delayed_references :
    admitted (.tx .dlyRef true false) idle = true ∧ admitted (.tx .dlyRs true false) idle = true ∧
    admitted (.tx .dlyTs false false) idle = true := by decide

theorem witness_late_is_half_a_turn : 0 < 2 ^ 39 ∧ 2 ^ 39 ≤ 2 ^ 39 := by decide

theorem witness_tx_steps :
    (∀ p : TxPhase, (ready (.tx p)).refused = false ∧ (ready (.tx p)).locus = .tx p ∧ (ready (.tx p)).sysTime = 0) ∧
    ({ ready (.tx .wait) with dl := { Deadlines.none with start := some 0 } } : State).dl.start = some 0 ∧
    ({ ready (.tx .cca) with dl := { Deadlines.none with cca := some 0 } } : State).dl.cca = some 0 ∧
    ({ ready (.tx .shr) with dl := { Deadlines.none with rmark := some 0 } } : State).dl.rmark = some 0 :=
  ⟨fun _ => ⟨rfl, rfl, rfl⟩, rfl, rfl, rfl⟩

/-- A frame at its end, with `SYS_CFG`, `AON_CFG`, `tx_w4r` and a double buffer. -/
def frameEnding (cfg : BitVec 32) (aon : BitVec 16) (w4r : Bool) (db : DbStatus) : State :=
  withCfg cfg (withAon aon { ready (.tx .data) with dl := { Deadlines.none with txend := some 0 }, txW4r := w4r, db := db })

/-- With no timeout and no SNIFF every interval fits. -/
theorem huntFits_of_zero (s : State) (h₁ : fwtoCountOf s.saved.rxFwto = 0) (h₂ : s.saved.preToc.toNat = 0)
    (h₃ : sniffOffOf s.saved.rxSniff = 0) : huntFits s := by
  simp [huntFits, h₁, h₂, h₃]

/-- Where the parameter `PAC_DTU` is long, a preamble timeout of one unit does not fit; where it is short, the clause is empty. -/
theorem not_huntFits_of_pac (s : State) (h : s.saved.preToc.toNat = 1) (hp : 2 ^ 39 ≤ Config.pacDtu (cfgOf s)) : ¬huntFits s := by
  simp only [huntFits, h]
  omega

theorem witness_tx_end :
    let f := frameEnding 1 0 true ⟨false, false, true, false⟩
    let h := frameEnding 0 0 true ⟨false, false, false, false⟩
    let z := frameEnding 0 0x23 false ⟨false, false, false, false⟩
    let i := frameEnding 0 0x20 false ⟨false, false, false, false⟩
    (∀ s ∈ [f, h, z, i], s.refused = false ∧ s.locus = .tx .data ∧ s.dl.txend = some s.sysTime) ∧
    (f.txW4r = true ∧ overrun f = true) ∧ (h.txW4r = true ∧ overrun h = false ∧ huntFits h) ∧
    (z.txW4r = false ∧ atxSlpOf z.aonCfg = true ∧ sleepEnOf z.aonCfg = true) ∧ (i.txW4r = false ∧ sleepEnOf i.aonCfg = false) := by
  refine ⟨?_, ⟨rfl, rfl⟩, ⟨rfl, rfl, huntFits_of_zero _ rfl rfl rfl⟩, ⟨rfl, rfl, rfl⟩, ⟨rfl, rfl⟩⟩
  simp [frameEnding, withCfg, withAon, ready, State.reset]

/-- The state of `txAt k` with the ticks up to the RMARKER. -/
def txRun (k : Nat) : State :=
  { txAt (BitVec.ofNat 40 k) with agenda := List.replicate (k + (Config.shrDtu (cfgOf idle)).toNat) .tick ++ [.wakePin] }

theorem witness_delayed_tx_timestamp :
    ∃ t, (txRun 0).refused = false ∧ CommandReady (txRun 0) ∧ admitted (.tx .dlyAbs false false) (txRun 0) = true ∧
      ((0 : Time) - (txRun 0).sysTime).toNat < 2 ^ 39 ∧
      (0 : Time) = refTime .dlyAbs (txRun 0) + (txRun 0).dxTime - (Config.shrDtu (cfgOf (txRun 0))).setWidth 40 ∧
      (txRun 0).agenda = List.replicate (((0 : Time) - (txRun 0).sysTime).toNat + (Config.shrDtu (cfgOf (txRun 0))).toNat) .tick ++
        [.wakePin] ∧
      exec (.tx .dlyAbs false false) (txRun 0) = .next t := by
  refine ⟨startTxDelayed .dlyAbs false { txRun 0 with response := [], sysStatus := 0 }, rfl, ⟨⟨rfl, rfl⟩, rfl, rfl⟩, rfl, by decide,
    (txAt_start 0).symm, ?_, rfl⟩
  simp [txRun, txAt, ready, State.reset, cfgOf]

theorem witness_rx_immediate :
    let f := withCfg 1 { idle with db := ⟨false, false, true, false⟩ }
    CommandReady f ∧ admitted (.rx .imm false) f = true ∧ overrun f = true ∧
    CommandReady idle ∧ admitted (.rx .imm false) idle = true ∧ overrun idle = false ∧ huntFits idle :=
  ⟨⟨⟨rfl, rfl⟩, rfl, rfl⟩, rfl, rfl, ⟨⟨rfl, rfl⟩, rfl, rfl⟩, rfl, rfl, huntFits_of_zero _ rfl rfl rfl⟩

/-- `IDLE_PLL` at time 0 with `DX_TIME` at `k`, and a double buffer under `SYS_CFG`. -/
def rxAt (k : Time) (cfg : BitVec 32) (full : Bool) : State := withCfg cfg { idle with dxTime := k, db := ⟨false, false, full, false⟩ }

theorem witness_rx_delayed :
    (∀ (k : Time) (i : Bool), ∀ s ∈ [rxAt k 0 false, rxAt k 1 true], CommandReady s ∧ admitted (.rx .dlyAbs i) s = true ∧
      k = 0 + s.dxTime ∧ s.sysTime = 0) ∧
    (∀ k, overrun (rxAt k 0 false) = false ∧ huntFits (rxAt k 0 false) ∧ overrun (rxAt k 1 true) = true) ∧
    2 ^ 39 ≤ ((0x8000000000 : Time) - 0).toNat ∧ ((0x7FFFFFFFFF : Time) - 0).toNat < 2 ^ 39 ∧ (0x7FFFFFFFFF : Time) ≠ 0 := by
  have ha (i : Bool) : admitted (.rx .dlyAbs i) (rxAt 0 0 false) = true := by cases i <;> decide
  have hb (i : Bool) : admitted (.rx .dlyAbs i) (rxAt 0 1 true) = true := by cases i <;> decide
  have hf : overrun (rxAt 0 0 false) = false := by decide
  have ho : overrun (rxAt 0 1 true) = true := by decide
  refine ⟨?_, fun k => ⟨hf, huntFits_of_zero _ (by decide : fwtoCountOf 0 = 0) (by decide : (0 : BitVec 16).toNat = 0) (by decide : sniffOffOf 0 = 0), ho⟩, by decide⟩
  intro k i s hs
  simp only [List.mem_cons, List.not_mem_nil, or_false] at hs
  rcases hs with rfl | rfl
  · exact ⟨⟨⟨rfl, rfl⟩, rfl, rfl⟩, ha i, (BitVec.zero_add k).symm, rfl⟩
  · exact ⟨⟨⟨rfl, rfl⟩, rfl, rfl⟩, hb i, (BitVec.zero_add k).symm, rfl⟩

/-- A receiver in a phase, with deadlines. -/
def rxIn (p : RxPhase) (d : Deadlines) : State := { ready (.rx p) with dl := d }

theorem witness_rx_timed_steps :
    huntFits (rxIn .wait { Deadlines.none with start := some 0 }) ∧
    (∀ s, s = rxIn .hunt { Deadlines.none with sniff := some 0 } →
      s.sniffOn = true ∧ s.dl.sniff = some s.sysTime ∧ s.dl.fwto ≠ some s.sysTime ∧ s.dl.pre ≠ some s.sysTime ∧
      sniffOffOf s.saved.rxSniff * Config.sniffOffUnit < 2 ^ 39) ∧
    (∀ s, s = rxIn .data { Deadlines.none with fwto := some 0 } →
      s.refused = false ∧ s.locus = .rx .data ∧ s.dl.fwto = some s.sysTime) ∧
    (∀ s, s = rxIn .hunt { Deadlines.none with pre := some 0 } →
      s.locus = .rx .hunt ∧ s.dl.pre = some s.sysTime ∧ s.dl.fwto ≠ some s.sysTime) ∧
    (∀ s, s = rxIn .sfdWait { Deadlines.none with fwto := some 0, sfd := some 0 } →
      s.locus = .rx .sfdWait ∧ s.dl.sfd = some s.sysTime ∧ s.dl.fwto = some s.sysTime) := by
  refine ⟨huntFits_of_zero _ rfl rfl rfl, ?_, ?_, ?_, ?_⟩ <;> rintro s rfl
  · refine ⟨rfl, rfl, by decide, by decide, ?_⟩
    rw [show sniffOffOf (rxIn .hunt { Deadlines.none with sniff := some 0 }).saved.rxSniff = 0 from rfl, Nat.zero_mul]
    decide
  all_goals decide

/-- The SNIFF switches that are refused, and an attempt whose intervals do not fit: whether one reaches `2^39` depends on the units
alone. -/
theorem witness_rx_too_long (h : 2 ^ 39 ≤ Config.sniffOffUnit) (hp : ∀ c, 2 ^ 39 ≤ Config.pacDtu c) :
    (∀ s : State, s = { rxIn .hunt { Deadlines.none with sniff := some 0 } with
        saved := { (rxIn .hunt Deadlines.none).saved with rxSniff := 0x0100 } } →
      s.sniffOn = true ∧ s.dl.sniff = some s.sysTime ∧ 2 ^ 39 ≤ sniffOffOf s.saved.rxSniff * Config.sniffOffUnit ∧
      2 ^ 39 ≤ (sniffOnOf s.saved.rxSniff + 1) * Config.pacDtu (cfgOf s)) ∧
    (∀ (T : Time) (s : State), s = { idle with saved := { idle.saved with preToc := 1 }, dxTime := T } →
      CommandReady s ∧ admitted (.rx .dlyAbs false) s = true ∧ overrun s = false ∧ T = 0 + s.dxTime ∧ s.sysTime = 0 ∧ ¬huntFits s) := by
  refine ⟨?_, ?_⟩
  · rintro s rfl
    refine ⟨rfl, rfl, ?_, ?_⟩
    · rw [show sniffOffOf _ = 1 from rfl, Nat.one_mul]
      exact h
    · rw [show sniffOnOf _ = 0 from rfl, Nat.zero_add, Nat.one_mul]
      exact hp _
  · rintro T s rfl
    have ha : admitted (.rx .dlyAbs false) { idle with saved := { idle.saved with preToc := 1 } } = true := by decide
    have ho : overrun { idle with saved := { idle.saved with preToc := 1 } } = false := by decide
    exact ⟨⟨⟨rfl, rfl⟩, rfl, rfl⟩, ha, ho, (BitVec.zero_add T).symm, rfl, not_huntFits_of_pac _ rfl (hp _)⟩

/-- The SNIFF-on clause: whether the shortest on-time fits depends on `PAC_DTU` alone. -/
theorem witness_rx_sniff_on (h : Config.pacDtu (cfgOf (rxIn .hunt Deadlines.none)) < 2 ^ 39) :
    let s := { rxIn .hunt { Deadlines.none with sniff := some 0 } with sniffOn := false }
    s.locus = .rx .hunt ∧ s.sniffOn = false ∧ s.dl.sniff = some s.sysTime ∧
    (sniffOnOf s.saved.rxSniff + 1) * Config.pacDtu (cfgOf s) < 2 ^ 39 :=
  ⟨rfl, rfl, rfl, (Nat.one_mul _).symm ▸ h⟩

theorem witness_air_progress :
    (ready (.tx .cca)).locus = .tx .cca ∧ (ready (.rx .hunt)).sniffOn = true ∧
    (ready (.rx .hunt)).saved.sfdToc.toNat * Config.symDtu (cfgOf (ready (.rx .hunt))) < 2 ^ 39 ∧
    (ready (.rx .sfdWait)).locus = .rx .sfdWait ∧ (ready (.rx .data)).phrOk = false := by
  refine ⟨rfl, rfl, ?_, rfl, rfl⟩
  simp [ready, State.reset, Saved.reset]

theorem witness_air_errors :
    airErrorBits (.phrResult false) = some 0x20 ∧ airAdmitted (.phrResult false) (ready (.rx .data)) = true ∧
    airErrorBits .syncLoss = some 0x2000 ∧ airAdmitted .syncLoss (ready (.rx .sfdWait)) = true ∧
    airErrorBits (.frameEnd .crcErr 0 false meas0) = some 0x140 ∧ airAdmitted (.frameEnd .crcErr 0 false meas0) receivingFrame = true ∧
    airErrorBits (.frameEnd .rsErr 0 false meas0) = some 0x200 ∧ airAdmitted (.frameEnd .rsErr 0 false meas0) receivingFrame = true ∧
    rxAutoReenOf (ready (.rx .data)).saved.sysCfg = false ∧ rxAutoReenOf (withCfg 4 receivingFrame).saved.sysCfg = true ∧
    huntFits (withCfg 4 receivingFrame) := by
  refine ⟨by decide, by decide, by decide, by decide, by decide, by decide, by decide, by decide, by decide, by decide, ?_⟩
  exact huntFits_of_zero _ rfl rfl rfl

/-- What a good frame leaves before the attempt ends, in the terms of the statement `good_frame`. -/
def frameResult (s : State) (m : Meas) (b : BufSet) (n : Bool) : State :=
  { stopped s with
    sysStatus := s.sysStatus ||| 0x000040C0
    cir := cirCells m
    rxStampLast := b.stampIp
    buf0 := if n then s.buf0 else b
    buf1 := if n then b else s.buf1
    stale0 := s.stale0 && n
    stale1 := s.stale1 && !n
    db := if dbEnOf s.saved.sysCfg then
        { hwBuf := !n, hostBuf := s.db.hostBuf, full0 := s.db.full0 || !n, full1 := s.db.full1 || n } else s.db }

/-- The receiver at the end of a frame, with `SYS_CFG`, `AON_CFG` and a double buffer. -/
def frameAt (cfg : BitVec 32) (aon : BitVec 16) (db : DbStatus) : State := withCfg cfg (withAon aon { receivingFrame with db := db })

theorem witness_good_frame :
    (∀ cfg aon db, ∃ b : BufSet, let s := frameAt cfg aon db
      s.locus = .rx .data ∧ s.phrOk = true ∧ b.rxFinfo.toNat = (12#10).toNat + (if false then 1024 else 0) ∧ b.rxRawst = s.rxRaw ∧
      b.stampIp = meas0.toaIp - s.saved.rxAntd.setWidth 40 ∧ b.stampSts1 = meas0.toaSts1 - s.saved.rxAntd.setWidth 40 ∧
      b.stampSts2 = meas0.toaSts2 - s.saved.rxAntd.setWidth 40 ∧ b.poaIp = meas0.poaIp.setWidth 16 ∧
      b.poaSts1 = meas0.poaSts1.setWidth 16 ∧ b.poaSts2 = meas0.poaSts2.setWidth 16 ∧
      b.rxTdoa = tdoaReg (pdoaModeOf s.saved.sysCfg) meas0 ∧
      b.rxPdoa = pdoaReg (pdoaModeOf s.saved.sysCfg) (s.saved.ciaAdjust.extractLsb' 0 14) meas0 ∧
      b.stsQual = meas0.stsQual ∧ b.stsSts = meas0.stsSts ∧ b.ipDiag = meas0.diagIp ∧ b.sts1Diag = meas0.diagSts1 ∧
      b.sts2Diag = meas0.diagSts2 ∧ b.dgcDcsn = meas0.dgc.setWidth 8) ∧
    pdoaModeOf (frameAt 0x10 0 ⟨false, false, false, false⟩).saved.sysCfg = 2 ∧
    (pdoaModeOf 0 ≠ 2 ∧ pdoaModeOf 5 ≠ 2 ∧ pdoaModeOf 0x0D ≠ 2 ∧ pdoaModeOf 0x1D ≠ 2) ∧
    (arxSlpOf 0x41 = true ∧ sleepEnOf 0x41 = true ∧ arxSlpOf 0x01 = false ∧ sleepEnOf 0x40 = false) ∧
    (dbEnOf 4 = false ∧ rxAutoReenOf 1 = false ∧ dbEnOf 5 = true ∧ rxAutoReenOf 5 = true) ∧
    (∀ b, (frameResult (frameAt 5 0 ⟨true, false, true, false⟩) meas0 b true).db.full false = true ∧
      (frameResult (frameAt 5 0 ⟨false, false, false, false⟩) meas0 b false).db.full true = false) ∧
    huntFits (frameAt 5 0 ⟨false, false, false, false⟩) := by
  have hf : ((12#10).setWidth 32 ||| ((BitVec.ofBool false).setWidth 32 <<< 10) : BitVec 32).toNat = (12#10).toNat + 0 := by decide
  refine ⟨fun cfg aon db => ⟨ciaBuf 12 false meas0 (frameAt cfg aon db), rfl, rfl, hf, rfl, rfl, rfl, rfl, rfl, rfl, rfl, rfl, rfl, rfl,
    rfl, rfl, rfl, rfl, rfl⟩, by decide, by decide, by decide, by decide, fun _ => ⟨rfl, rfl⟩, huntFits_of_zero _ ?_ ?_ ?_⟩
  all_goals decide

theorem witness_tdoa_exact :
    pairOf 1 { meas0 with toaIp := 0xFFFFFFFFFF } = some ((0xFFFFFFFFFF, 0), (0, 0)) ∧
    pairOf 3 { meas0 with toaSts2 := 0xFFFFFFFFFF, poaSts1 := 1 } = some ((0, 0xFFFFFFFFFF), (1, 0)) ∧ (0 : BitVec 2) = 0 := by decide

theorem witness_pdoa_wrapped :
    pairOf 1 { meas0 with poaSts1 := 0x1FFF } = some ((0, 0), (0, 0x1FFF)) ∧
    pairOf 3 { meas0 with poaSts1 := 0x2000 } = some ((0, 0), (0x2000, 0)) := by decide

/-- `IDLE_RC` with a calibration machine. -/
def calAt (c : CalFsm) : State := { State.reset with locus := .idleRc, calfsm := c }

theorem witness_pll_budget :
    (calAt (.pll 0 0)).calfsm = .pll 0 0 ∧ (∀ d ∈ List.replicate 99 (default : CalDraw), d.lock = false) ∧
    (List.replicate 99 (default : CalDraw)).length < 100 ∧ ({ (default : CalDraw) with lock := true } : CalDraw).lock = true ∧
    (List.replicate 100 (default : CalDraw)).length = 100 ∧ (∀ d ∈ List.replicate 100 (default : CalDraw), d.lock = false) := by
  refine ⟨rfl, ?_, by simp, rfl, by simp, ?_⟩ <;> intro d h <;> rw [List.eq_of_mem_replicate h] <;> rfl

theorem witness_rx_calibration_outcomes :
    (calAt (.pgf 0 true)).calfsm = .pgf 0 true ∧ (calAt (.pgf 0 false)).calfsm = .pgf 0 false ∧ (calAt .adc).calfsm = .adc ∧
    (∀ d ∈ ([default, default, default] : List CalDraw), d.ok = false) ∧
    (∀ x : CalDraw, x = { (default : CalDraw) with ok := true, resi := Config.rxCalInvalid } →
      x.ok = true ∧ x.resi = Config.rxCalInvalid) ∧
    (∀ x : CalDraw, x = { (default : CalDraw) with resi := ~~~Config.rxCalInvalid, resq := Config.rxCalInvalid } →
      x.resi ≠ Config.rxCalInvalid ∧ x.resq = Config.rxCalInvalid) ∧
    (∀ x : CalDraw, x = { (default : CalDraw) with resi := ~~~Config.rxCalInvalid, resq := ~~~Config.rxCalInvalid } →
      x.resi ≠ Config.rxCalInvalid ∧ x.resq ≠ Config.rxCalInvalid) := by
  have h : ~~~Config.rxCalInvalid ≠ Config.rxCalInvalid := by
    intro h
    have := congrArg (fun v => BitVec.getLsbD v 0) h
    simp at this
  refine ⟨rfl, rfl, rfl, by decide, ?_, ?_, ?_⟩ <;> rintro x rfl
  · exact ⟨rfl, rfl⟩
  · exact ⟨h, rfl⟩
  · exact ⟨h, h⟩

theorem witness_calibration_is_bounded :
    (calAt .none).calfsm = .none ∧ calFits .idleRc (.pll 1 49) = true ∧ calFits .idlePll (.pgf 2 true) = true ∧
    calFits .idlePll (.res false) = true ∧ calFits .idleRc .adc = true ∧ (CalFsm.adc ≠ .none) ∧
    (∀ l p, CalFsm.adc ≠ .pll l p) := by
  refine ⟨by decide, by decide, by decide, by decide, by decide, by decide, ?_⟩
  intro l p h
  cases h

theorem witness_wake_triggers :
    (∀ l ∈ [Locus.sleep, .deepSleep], asleep (ready l) = true ∧ due (ready l) = none ∧ (ready l).refused = false) ∧
    (∀ s, s = ({ ready .sleep with aonCfg := 0x81, sleepCnt := 3, aonElapsed := 3 * Config.lpUnit } : State) →
      s.locus = .sleep ∧ s.aonCfg.getLsbD 7 = true ∧ s.sleepCnt ≠ 0 ∧ s.aonElapsed = s.sleepCnt.toNat * Config.lpUnit) ∧
    (withAon 0x0C (ready .sleep)).aonCfg.getLsbD 2 = true ∧ (withAon 0x0C (ready .sleep)).aonCfg.getLsbD 3 = true ∧
    due idle = none ∧ idle.refused = false ∧ asleep idle = false := by
  refine ⟨by decide, ?_, by decide⟩
  rintro s rfl
  exact ⟨rfl, rfl, by decide, rfl⟩

/-- A block in `DEEPSLEEP` with the counter's enable set and its target reached, a tick to come. -/
def deepAsleep : State :=
  { State.reset with locus := .deepSleep, aonCfg := 0x81, sleepCnt := 3, aonElapsed := 3 * Config.lpUnit, agenda := [.tick] }

/-- The clause that nothing else wakes the block: a tick in `DEEPSLEEP` past the counter's target, and it sleeps on. -/
theorem witness_wake_triggers_only :
    SeqInv deepAsleep ∧ asleep deepAsleep = true ∧ ∃ t, step deepAsleep = .next t ∧ asleep t = true :=
  ⟨{ deadlines := by decide
     calibration := by decide
     pll := by decide
     undef := by decide
     sniff := by decide
     phr := by decide
     w4r := fun h => absurd h (by decide)
     onTime := by decide }, rfl, _, rfl, rfl⟩

theorem witness_clock_sensor_irq : asleep idle = false ∧ asleep (ready .deepSleep) = true := by decide

/-- A block that is transmitting, its end one tick away. -/
def transmitting : State :=
  { ready (.tx .data) with dl := { Deadlines.none with txend := some 1 }, agenda := [.tick] }

theorem transmitting_seqInv : SeqInv transmitting where
  deadlines := by decide
  calibration := by decide
  pll := by decide
  undef := by decide
  sniff := by decide
  phr := by decide
  w4r := fun h => absurd h (by decide)
  onTime := by decide

theorem transmitting_dbInv : DbInv transmitting where
  off := by decide
  consistent := by decide
  room := by decide

theorem transmitting_regInv : RegInv transmitting where
  status := by decide
  result := ⟨.success, rfl⟩
  set0 := by decide
  set1 := by decide
  resistors := by decide
  sensor := by decide
  memory := List.Pairwise.nil

theorem witness_step_keeps_invariants :
    SeqInv transmitting ∧ DbInv transmitting ∧ RegInv transmitting ∧ ∃ t, step transmitting = .next t :=
  ⟨transmitting_seqInv, transmitting_dbInv, transmitting_regInv, _, rfl⟩

theorem witness_opstate_transitions :
    let s := { transmitting with sysTime := 1 }
    shown (step s) (fun t => kindOf t.locus) = some .idlePll ∧ mayGo (kindOf s.locus) .idlePll = true ∧ mayGo .init .tx = false := by
  decide

end Sys2Proof.Machine.Tests
end

section
/-! SUPPORT. The rules of `step`: which of its three sources of steps answers, and what a port record does. -/

namespace Sys2Proof.Machine

variable {s : State}

/-- A refused run has no step (rule R12). -/
theorem step_of_refused (h : s.refused = true) : step s = .refused .runRefused := by
  simp [step, h]

/-- A due `Seq` transition goes first (rule R265). -/
theorem step_of_due {q : SeqStep} (hr : s.refused = false) (hq : due s = some q) : step s = fire q s := by
  simp [step, hr, hq]

/-- With nothing due, the first entry of the agenda is performed (rule R266). -/
theorem step_of_agenda {a : Action} {rest : List Action} (hr : s.refused = false) (hd : due s = none)
    (ha : s.agenda = a :: rest) : step s = perform a { s with agenda := rest } := by
  simp [step, outsideStep, hr, hd, ha]

/-- With nothing due and nothing on the agenda, a free action is performed (rule R266). -/
theorem step_of_agenda_nil (hr : s.refused = false) (hd : due s = none) (ha : s.agenda = []) :
    step s = perform (Config.freeAction s.draws) { s with draws := s.draws + 1 } := by
  simp [step, outsideStep, hr, hd, ha]

/-- A record that decodes to one instruction, nothing left over, runs it under the transport's verdict (rules R80, R100). -/
theorem perform_port_of_decode {octets : List Byte} {i : Instr} (h : decode octets = .ok (i, [])) (c : Bool) (s : State) :
    perform (.port octets c) s = exec i { s with crcOk := c } := by
  simp [perform, portStep, h]

@[simp] theorem withFetchWord_agenda (s : State) (nbits w : Nat) :
    (s.withFetchWord nbits w).agenda = .port (tableRecord nbits w) true :: s.agenda := rfl

@[simp] theorem withFetchWord_refused (s : State) (nbits w : Nat) : (s.withFetchWord nbits w).refused = s.refused := rfl

/-- What is due does not depend on the agenda. -/
@[simp] theorem due_withFetchWord (s : State) (nbits w : Nat) : due (s.withFetchWord nbits w) = due s := rfl

end Sys2Proof.Machine
end

section
/-! SUPPORT. An admitted command: the tests are passed, its body runs, and `CMDDONE` is set again. -/

namespace Sys2Proof.Machine

/-- A command that passes every test of rule R90 runs its body, with the old response and `CMDDONE` gone (rule R85). -/
theorem command_runs {soft argsOk : Bool} {admits extra : State → Bool} {body : State → Res} {s : State}
    (hp : PortReady s) (hc : crcGood s = true) (hu : s.cal.cfgUndef = false ∨ soft = true) (ha : argsOk = true)
    (hb : busy s = false ∨ soft = true) (hm : admits (clearEvent .cmddone { s with response := [] }) = true)
    (he : extra (clearEvent .cmddone { s with response := [] }) = true) :
    command soft argsOk admits extra body s = body (clearEvent .cmddone { s with response := [] }) := by
  have hc' : crcGood { s with response := [] } = true := hc
  have hu' : (s.cal.cfgUndef && !soft) = false := by
    rcases hu with h | h <;> simp [h]
  have hb' : (busy (clearEvent .cmddone { s with response := [] }) && !soft) = false := by
    have hbs : busy (clearEvent .cmddone { s with response := [] }) = busy s := rfl
    rcases hb with h | h <;> simp [hbs, h]
  unfold command
  rw [atPort_ready hp.1 hp.2]
  simp only [hc', clearEvent_cal, hu', ha, hb', hm, he, Bool.not_true, Bool.false_eq_true, if_false]

/-- Setting a mask's bits after clearing them is setting them. -/
theorem or_of_and_not {w : Nat} (v m : BitVec w) : (v &&& ~~~m) ||| m = v ||| m := by
  ext i hi
  simp only [BitVec.getElem_or, BitVec.getElem_and, BitVec.getElem_not]
  cases m[i] <;> simp

/-- A result reported at the end of a command sets `CMDDONE`, whatever the command's start did to it (rules R85, R251). -/
theorem setResult_after_clear (c : ResultCode) (s : State) :
    setResult c (clearEvent .cmddone s) =
      { s with sysStatus := s.sysStatus ||| 0x00100000, cmdResult := resultByte c } := by
  have hs : (s.sysStatus &&& ~~~eventMask .cmddone) ||| eventMask .cmddone = s.sysStatus ||| 0x00100000 :=
    or_of_and_not s.sysStatus (eventMask .cmddone)
  simp only [setResult, setEvent, clearEvent, hs]

end Sys2Proof.Machine
end

section
/-! SUPPORT. `XTALCOMP`: the trim code is clipped into an octet, and the command writes nothing but that code. -/

namespace Sys2Proof.Machine

/-- Clipping between ordered bounds is the larger of the lower one and the smaller of value and upper one (rule R11). -/
theorem clip_eq_max_min {lo hi : Int} (h : lo ≤ hi) (v : Int) : clip v lo hi = max lo (min hi v) := by
  unfold clip
  split
  · omega
  · split <;> omega

theorem xtalTrimMin_le_xtalTrimMax : Config.xtalTrimMin ≤ Config.xtalTrimMax :=
  Config.xtalTrim_ordered.1.trans Config.xtalTrim_ordered.2

/-- The greatest trim code is an octet. -/
theorem xtalTrimMax_lt : Config.xtalTrimMax < 256 := by
  unfold Config.xtalTrimMax
  have h₁ := Config.trimTriple.1.isLt
  have h₂ := Config.trimTriple.2.1.isLt
  have h₃ := Config.trimTriple.2.2.isLt
  omega

/-- The new trim code is in the range of the trim, so the octet that holds it holds it exactly. -/
theorem toNat_ofInt_xtalCode (s : State) : ((BitVec.ofInt 8 (xtalCode s)).toNat : Int) = xtalCode s := by
  have hle := xtalTrimMin_le_xtalTrimMax
  have hlt := xtalTrimMax_lt
  have hr : 0 ≤ xtalCode s ∧ xtalCode s < 256 := by
    rw [xtalCode, clip_eq_max_min (by exact_mod_cast hle)]
    omega
  rw [BitVec.toNat_ofInt]
  omega

theorem exec_xtalcomp (s : State) : exec .xtalcomp s = execXtalcomp s := rfl

/-- An admitted `XTALCOMP` reports success and puts the new code into `XTAL_TRIM` (rule R238). -/
theorem exec_xtalcomp_admitted {s : State} (hr : CommandReady s) (ha : admitted .xtalcomp s = true) :
    exec .xtalcomp s = .next { s with
      response := [], sysStatus := s.sysStatus ||| 0x00100000, cmdResult := 0x00
      saved.xtalTrim := BitVec.ofInt 8 (xtalCode s) } := by
  obtain ⟨hp, hc, hu⟩ := hr
  obtain ⟨hb, hi⟩ : busy s = false ∧ idling s = true := by simpa [admitted, Instr.argsOk] using ha
  rw [exec_xtalcomp, execXtalcomp, command_runs hp hc (.inl hu) rfl (.inl hb) hi rfl]
  exact congrArg Host.Outcome.next
    (setResult_after_clear .success { s with response := [], saved.xtalTrim := BitVec.ofInt 8 (xtalCode s) })

end Sys2Proof.Machine
end

section
/-! SUPPORT. Device times: a difference modulo one turn of the clock, and lateness as half a turn (rules R11, R144). -/

namespace Sys2Proof.Machine

/-- Lateness on the number that the difference of two times is. -/
theorem late_iff (S now : Time) : late S now = true ↔ 2 ^ 39 ≤ (S - now).toNat := by
  simp [late]

/-- The difference of two times is their integer difference, modulo one turn. -/
theorem toNat_sub_eq_emod (S now : Time) : ((S - now).toNat : Int) = ((S.toNat : Int) - now.toNat) % 2 ^ 40 := by
  rw [BitVec.toNat_sub]
  omega

/-- A start `d` ahead is `d` modulo one turn away. -/
theorem toNat_ahead (now : Time) (d : Nat) : (now + BitVec.ofNat 40 d - now).toNat = d % 2 ^ 40 := by
  rw [BitVec.add_comm, BitVec.add_sub_cancel, BitVec.toNat_ofNat]

/-- A start `d` behind, at most a turn, is the rest of the turn away. -/
theorem toNat_behind (now : Time) {d : Nat} (h0 : 0 < d) (h : d ≤ 2 ^ 40) :
    (now - BitVec.ofNat 40 d - now).toNat = 2 ^ 40 - d := by
  simp only [BitVec.toNat_sub, BitVec.toNat_ofNat]
  omega

end Sys2Proof.Machine
end

section
/-! SUPPORT. The octets of a value, least significant first, read back as one number (rule R62). -/

namespace Sys2Proof.Machine

/-- Bit by bit, the number of a value's `n` low octets is the value as far as the octets and the container reach. -/
theorem getLsbD_leValue_octets {w : Nat} (v : BitVec w) (n i : Nat) :
    (leValue ((List.range n).map fun k => v.extractLsb' (8 * k) 8)).getLsbD i =
      (decide (i < 160) && decide (i < 8 * n) && v.getLsbD i) := by
  induction n generalizing v i with
  | zero => simp [leValue]
  | succ n ih =>
    have htail : ((List.range n).map fun k => v.extractLsb' (8 * (k + 1)) 8) =
        (List.range n).map fun k => (v >>> 8).extractLsb' (8 * k) 8 := by
      refine List.map_congr_left fun k _ => ?_
      ext j hj
      simp only [BitVec.getElem_extractLsb', BitVec.getLsbD_ushiftRight]
      congr 1
      omega
    rw [List.range_succ_eq_map, List.map_cons, List.map_map]
    simp only [Function.comp_def, Nat.succ_eq_add_one, htail, leValue, BitVec.getLsbD_or, BitVec.getLsbD_setWidth,
      BitVec.getLsbD_extractLsb', BitVec.getLsbD_shiftLeft, ih, BitVec.getLsbD_ushiftRight]
    by_cases h8 : i < 8
    · have : i < 8 * (n + 1) := by omega
      simp [h8, this]
    · have hi : 8 + (i - 8) = i := by omega
      by_cases h : i < 8 * (n + 1)
      · have : i - 8 < 8 * n := by omega
        by_cases h160 : i < 160
        · have : i - 8 < 160 := by omega
          simp [*]
        · simp [*]
      · have : ¬ i - 8 < 8 * n := by omega
        simp [*]

/-- The six octets of a 48-bit register carry all of it. -/
theorem leValue_six_octets (v : BitVec 48) :
    leValue ((List.range 6).map fun k => v.extractLsb' (8 * k) 8) = v.setWidth 160 := by
  refine BitVec.eq_of_getLsbD_eq fun i hi => ?_
  rw [getLsbD_leValue_octets, BitVec.getLsbD_setWidth]
  by_cases h : i < 48
  · have : i < 8 * 6 := h
    simp [this]
  · simp [BitVec.getLsbD_of_ge v i (by omega)]

end Sys2Proof.Machine
end

section
/-! SUPPORT. `RX_TDOA` and `RX_PDOA`: a number packed into the low bits of a register is the number read back (rules R194 to R197,
R207). -/

namespace Sys2Proof.Machine

/-! ### Numbers packed into wider registers -/

/-- A widened value has no bits above its old width. -/
theorem setWidth_ushiftRight_self {w v : Nat} (x : BitVec w) : (x.setWidth v) >>> w = 0#v := by
  refine BitVec.eq_of_getLsbD_eq fun i _ => ?_
  simp

/-! ### The pair of measurement points -/

/-- The model's two pairs are the two halves of a mode's pair (rule R194). -/
theorem pairOf_eq_some {mode : BitVec 2} {m : Meas} {tt : Time × Time} {pp : BitVec 14 × BitVec 14}
    (h : pairOf mode m = some (tt, pp)) : toaPair mode m = some tt ∧ poaPair mode m = some pp := by
  unfold pairOf at h
  unfold toaPair poaPair
  split at h
  · next h1 =>
    cases h
    simp [h1]
  · next h1 =>
    split at h
    · next h3 =>
      cases h
      simp [h3]
    · cases h

theorem tdoaReg_of_toaPair {mode : BitVec 2} {m : Meas} {ta tb : Time} (h : toaPair mode m = some (ta, tb)) :
    tdoaReg mode m = tdoaOf ta tb := by
  simp [tdoaReg, h]

theorem pdoaReg_of_poaPair {mode : BitVec 2} {m : Meas} {pa pb : BitVec 14} (adj : BitVec 14)
    (h : poaPair mode m = some (pa, pb)) : pdoaReg mode adj m = pdoaPacked (pdoaResult pa pb adj) := by
  simp [pdoaReg, h]

theorem tdoaReg_mode_zero (m : Meas) : tdoaReg 0 m = 0 := rfl

theorem pdoaReg_mode_zero (adj : BitVec 14) (m : Meas) : pdoaReg 0 adj m = 0 := rfl

/-- `RX_TDOA` holds a packed difference of arrival times, or 0. -/
theorem tdoaReg_cases (mode : BitVec 2) (m : Meas) : (∃ ta tb, tdoaReg mode m = tdoaOf ta tb) ∨ tdoaReg mode m = 0 := by
  unfold tdoaReg
  split
  · exact .inl ⟨_, _, rfl⟩
  · exact .inr rfl

/-- `RX_PDOA` holds a packed PDOA, or 0. -/
theorem pdoaReg_cases (mode : BitVec 2) (adj : BitVec 14) (m : Meas) :
    (∃ pa pb, pdoaReg mode adj m = pdoaPacked (pdoaResult pa pb adj)) ∨ pdoaReg mode adj m = 0 := by
  unfold pdoaReg
  split
  · exact .inl ⟨_, _, rfl⟩
  · exact .inr rfl

/-! ### TDOA -/

/-- The host reads the exact difference: two times below `2^40` differ by less than `2^40`, and 41 bits hold that. -/
theorem tdoaValue_octets_tdoaOf (ta tb : Time) :
    tdoaValue ((List.range 6).map fun k => (tdoaOf ta tb).extractLsb' (8 * k) 8) = (tb.toNat : Int) - ta.toNat := by
  have hta := ta.isLt
  have htb := tb.isLt
  rw [tdoaValue, leValue_six_octets, BitVec.setWidth_setWidth_of_le _ (by omega), tdoaOf,
    BitVec.setWidth_setWidth_of_le _ (by omega), BitVec.setWidth_eq]
  exact BitVec.toInt_ofInt_eq_self (by omega) (by omega) (by omega)

theorem tdoaOf_ushiftRight (ta tb : Time) : tdoaOf ta tb >>> 41 = 0 :=
  setWidth_ushiftRight_self _

/-! ### PDOA -/

/-- The rule's own formula stays within one turn around 0. -/
theorem pdoaWrapped_bounds (pa pb adj : BitVec 14) : -6434 ≤ pdoaWrapped pa pb adj ∧ pdoaWrapped pa pb adj ≤ 6433 := by
  simp only [pdoaWrapped, Config.piQ11, Config.twoPiQ11]
  omega

/-- By either formula the PDOA lies in one turn around 0 (rule R196). -/
theorem pdoaResult_bounds (pa pb adj : BitVec 14) : -6434 ≤ pdoaResult pa pb adj ∧ pdoaResult pa pb adj ≤ 6433 := by
  unfold pdoaResult
  split
  · exact pdoaWrapped_bounds pa pb adj
  · next f _ =>
    have := (f pa pb adj).isLt
    simp only [Config.piQ11]
    omega

/-- The host reads back what was packed, for a PDOA in its range (rule R197). -/
theorem pdoaValue_pdoaPacked {q : Int} (hlo : -6434 ≤ q) (hhi : q ≤ 6433) : pdoaValue (pdoaPacked q) = q := by
  rw [pdoaValue, pdoaPacked, BitVec.extractLsb'_setWidth_of_le (by omega), BitVec.extractLsb'_eq_self]
  exact BitVec.toInt_ofInt_eq_self (by omega) (by omega) (by omega)

theorem pdoaPacked_ushiftRight (q : Int) : pdoaPacked q >>> 14 = 0 :=
  setWidth_ushiftRight_self _

/-- What a frame leaves in `RX_PDOA` is in range and leaves the top bits zero, in every mode (rules R196, R207). -/
theorem pdoaReg_bounds (mode : BitVec 2) (adj : BitVec 14) (m : Meas) :
    -6434 ≤ pdoaValue (pdoaReg mode adj m) ∧ pdoaValue (pdoaReg mode adj m) ≤ 6433 ∧ pdoaReg mode adj m >>> 14 = 0 := by
  rcases pdoaReg_cases mode adj m with ⟨pa, pb, h⟩ | h
  · obtain ⟨hlo, hhi⟩ := pdoaResult_bounds pa pb adj
    rw [h, pdoaValue_pdoaPacked hlo hhi]
    exact ⟨hlo, hhi, pdoaPacked_ushiftRight _⟩
  · rw [h]
    decide

end Sys2Proof.Machine
end

section
/-! The obligations of spec/00_scope.md: the order of steps, integers and their packing. -/

namespace Sys2Proof.Proofs.Scope

open Sys2Proof.Machine

/-- Settles O5: the record on the agenda is the next step, and performing it runs the decoded instruction. -/
theorem stepRunsDecoded : Obligations.step_runs_decoded := by
  refine ⟨fun s octets c rest i hr hd ha hi => ?_, fun s nbits w i hr hd hi => ?_⟩
  · rw [step_of_agenda hr hd ha, perform_port_of_decode hi]
  · rw [step_of_agenda (by simpa using hr) (by simpa using hd) (withFetchWord_agenda s nbits w), perform_port_of_decode hi]
    rfl

/-- Settles O6: one rule of `step` for each of its sources. -/
theorem stepOrder : Obligations.step_order :=
  ⟨fun _ _ => rfl, fun _ _ => rfl, fun _ =>
    ⟨step_of_refused, fun _ hr hq => step_of_due hr hq, fun _ _ hr hd ha => step_of_agenda hr hd ha, step_of_agenda_nil⟩⟩

/-- Settles O32: the code written is the clipped sum, which fits its octet. -/
theorem xtalcompCompletes : Obligations.xtalcomp_completes := by
  intro s hr ha
  refine ⟨_, exec_xtalcomp_admitted hr ha, rfl, _, _, _, rfl, rfl, rfl, ?_⟩
  rw [← clip_eq_max_min (by exact_mod_cast xtalTrimMin_le_xtalTrimMax)]
  exact toNat_ofInt_xtalCode s

/-- Settles O37: every clause compares the number of units to the start, modulo one turn, with half a turn. -/
theorem lateIsHalfATurn : Obligations.late_is_half_a_turn := by
  intro S now
  refine ⟨?_, ?_, fun d => ?_, fun d h0 h => ?_⟩
  · rw [late_iff, ← toNat_sub_eq_emod]
    omega
  · simp [late]
  · rw [late, toNat_ahead]
  · rw [late_iff, toNat_behind now h0 (by omega)]
    omega

/-- Settles O48: the register is the packed difference, and packing loses nothing. -/
theorem tdoaExact : Obligations.tdoa_exact := by
  intro mode m
  refine ⟨fun ta tb pp h => ?_, fun h => h ▸ tdoaReg_mode_zero m, ?_⟩
  · rw [tdoaReg_of_toaPair (pairOf_eq_some h).1]
    exact tdoaValue_octets_tdoaOf ta tb
  · rcases tdoaReg_cases mode m with ⟨ta, tb, h⟩ | h
    · rw [h, tdoaOf_ushiftRight]
    · rw [h]
      rfl

/-- Settles O49: the register is the packed PDOA, which is in range by either formula. -/
theorem pdoaWrapped : Obligations.pdoa_wrapped := by
  intro mode adj m
  refine ⟨fun tt pa pb h => ?_, fun h => h ▸ pdoaReg_mode_zero adj m, pdoaReg_bounds mode adj m⟩
  obtain ⟨hlo, hhi⟩ := pdoaResult_bounds pa pb adj
  rw [pdoaReg_of_poaPair adj (pairOf_eq_some h).2, pdoaValue_pdoaPacked hlo hhi]
  rfl

end Sys2Proof.Proofs.Scope
end

section
/-! SUPPORT. What a step can do, said once: a port operation, a `Seq` transition and an air event that answer a next state have one
of the stated effects. Each invariant of the block is then a case analysis over effects. -/

namespace Sys2Proof.Machine

variable {s t : State}

/-! ### Events -/

/-- Setting events changes nothing but `SYS_STATUS`. -/
theorem setEvents_eq (es : List Event) (s : State) :
    es.foldr setEvent s = { s with sysStatus := (es.foldr setEvent s).sysStatus } := by
  induction es with
  | nil => rfl
  | cons e es ih =>
    rw [List.foldr_cons, ih]
    rfl

/-! ### The receiver is turned on, or an attempt ends (rules R165, R174 to R177) -/

/-- What comes after an attempt, or of enabling the receiver: rest, sleep, an overrun, or a new hunt where there is room for a frame. -/
inductive AttemptEffect (s : State) : State → Prop
  | idle : AttemptEffect s { s with locus := .idlePll }
  | sleep (deep : Bool) : AttemptEffect s (sleepEntry deep s)
  | overrun : AttemptEffect s (rxOverrun s)
  | hunt {t : State} (ho : overrun s = false) (h : enterHunt s = .next t) : AttemptEffect s t

theorem rxEnableNow_effect (h : rxEnableNow s = .next t) : AttemptEffect s t := by
  obtain ⟨-, rfl⟩ | ⟨ho, h⟩ := rxEnableNow_eq_next h
  · exact .overrun
  · exact .hunt ho h

theorem endTx_effect (h : endTx s = .next t) :
    AttemptEffect { setEvent .txfrs s with dl.txend := none, txW4r := false } t := by
  unfold endTx at h
  simp only at h
  split at h
  · exact rxEnableNow_effect h
  · next hw =>
    have hu : { setEvent .txfrs s with dl.txend := none } = { setEvent .txfrs s with dl.txend := none, txW4r := false } := by
      have hw : s.txW4r = false := by simpa using hw
      rw [← hw]
      rfl
    have ht : AttemptEffect { setEvent .txfrs s with dl.txend := none } t := by
      split at h <;> cases h
      · exact .sleep _
      · exact .idle
    exact hu ▸ ht

/-- The buffer set a good frame goes to: `HW_BUF` in double-buffer mode, else set 0 (rule R174). -/
def fillIndex (s : State) : Bool := dbEnOf s.saved.sysCfg && s.db.hwBuf

/-- The state with a good frame stored and the attempt stopped (rule R174). -/
def frameStored (len : BitVec 10) (rng : Bool) (m : Meas) (s : State) : State :=
  rxStop (fillBuffer (fillIndex s) (ciaWrite (fillIndex s) len rng m s))

theorem rxGood_effect {len : BitVec 10} {rng : Bool} {m : Meas} (h : rxGood len rng m s = .next t) :
    AttemptEffect (frameStored len rng m s) t := by
  unfold rxGood at h
  split at h
  · cases h
  · simp only at h
    split at h
    · cases h; exact .sleep _
    · split at h
      · exact rxEnableNow_effect h
      · cases h; exact .idle

/-! ### Commands (rules R85, R90) -/

/-- An interval lies below half a turn of the clock. -/
theorem interval_lt {count unit : Nat} {d : Time} (h : interval count unit = some d) : d.toNat < 2 ^ 39 := by
  obtain ⟨hlt, hd⟩ := interval_eq_some h
  omega

/-- What the body of an admitted command but `SOFTRESET` does, with what its admission says of the state. -/
inductive CommandEffect (s : State) : State → Prop
  | done : CommandEffect s (setResult .success s)
  | failed (e : Event) : CommandEffect s (setResult .error (setEvent e s))
  | trxoff : CommandEffect s (setResult .success (forceOff s))
  | txShr (w4r : Bool) (hl : s.locus = .idlePll) : CommandEffect s (setResult .success (enterShr { s with txW4r := w4r }))
  | txCca (w4r : Bool) (d : Time) (hl : s.locus = .idlePll) (hd : d.toNat < 2 ^ 39) :
    CommandEffect s (setResult .success { s with txW4r := w4r, locus := .tx .cca, dl.cca := some (s.sysTime + d) })
  | txArmed (w4r : Bool) (T : Time) (hl : s.locus = .idlePll) (hT : late T s.sysTime = false) :
    CommandEffect s (setResult .success { s with txW4r := w4r, locus := .tx .wait, dl.start := some T })
  | rxOn (c : ResultCode) (es : List Event) {t : State} (hl : s.locus = .idlePll) (h : AttemptEffect (es.foldr setEvent s) t) :
    CommandEffect s (setResult c t)
  | rxArmed (T : Time) (hl : s.locus = .idlePll) (ho : overrun s = false) (hT : late T s.sysTime = false) :
    CommandEffect s (setResult .success { s with locus := .rx .wait, dl.start := some T })
  | unlocked (l : Locus) (hi : idling s = true) (hl : l = .init ∨ l = .idleRc) :
    CommandEffect s (setResult .success { s with cal.pllLocked := false, locus := l })
  | locking (hi : idling s = true) : CommandEffect s { s with locus := .idleRc, calfsm := .pll 0 0 }
  | calrx (pgf adc : Bool) (hl : s.locus = .idleRc ∨ s.locus = .idlePll) : CommandEffect s (startCalrx pgf adc s)
  | configured (saved : Saved) (idx : BitVec 8) (hc : saved.sysCfg = s.saved.sysCfg) :
    CommandEffect s (setResult .success { s with saved := saved, txpwrIdx := idx })
  | dbfree (he : dbEnOf s.saved.sysCfg = true) (hf : s.db.full s.db.hostBuf = true) :
    CommandEffect s (setResult .success (freeBuffer s))
  | sleep (deep : Bool) (hi : idling s = true) : CommandEffect s (sleepEntry deep (setResult .success s))

theorem startTxNow_effect {w4r cca : Bool} (hl : s.locus = .idlePll) (h : startTxNow cca { s with txW4r := w4r } = .next t) :
    CommandEffect s t := by
  unfold startTxNow at h
  split at h
  · split at h
    · next d hd =>
      cases h; exact .txCca w4r d hl (interval_lt hd)
    · cases h
  · cases h; exact .txShr w4r hl

theorem startTxDelayed_effect (start : Start) (w4r : Bool) (hl : s.locus = .idlePll) :
    CommandEffect s (startTxDelayed start w4r s) := by
  unfold startTxDelayed
  split
  · exact .failed .dlylate
  · next hT =>
    split
    · exact .txShr w4r hl
    · exact .txArmed w4r _ hl (by simpa using hT)

theorem startRxNow_effect (hl : s.locus = .idlePll) (h : startRxNow s = .next t) : CommandEffect s t := by
  unfold startRxNow at h
  split at h
  · cases h; exact .rxOn .error [] hl .overrun
  · next ho =>
    obtain ⟨u, hu, h⟩ := andThen_eq_next.1 h
    cases h; exact .rxOn .success [] hl (.hunt (by simpa using ho) hu)

theorem startRxDelayed_effect {start : Start} {i : Bool} (hl : s.locus = .idlePll) (h : startRxDelayed start i s = .next t) :
    CommandEffect s t := by
  unfold startRxDelayed at h
  split at h
  · split at h
    · cases h; exact .failed .dlylate
    · obtain ⟨u, hu, h⟩ := andThen_eq_next.1 h
      cases h; exact .rxOn .error [.dlylate] hl (rxEnableNow_effect hu)
  · next hT =>
    split at h
    · cases h; exact .failed .rxovrr
    · next ho =>
      have ho : overrun s = false := by simpa using ho
      split at h
      · obtain ⟨u, hu, h⟩ := andThen_eq_next.1 h
        cases h; exact .rxOn .success [] hl (.hunt ho hu)
      · cases h; exact .rxArmed _ hl ho (by simpa using hT)

theorem setOpstate_effect (target : Target) (hi : idling s = true) : CommandEffect s (setOpstate target s) := by
  cases target with
  | init => exact .unlocked .init hi (.inl rfl)
  | idleRc => exact .unlocked .idleRc hi (.inr rfl)
  | idle =>
    simp only [setOpstate]
    split
    · exact .done
    all_goals exact .locking hi
  | rsv3 => exact .failed .cmderr

/-- The state a command's body starts from: the old response and `CMDDONE` are gone (rules R85, R100). -/
abbrev commandStart (s : State) : State := clearEvent .cmddone { s with response := [] }

/-- What a port operation that completes does. -/
inductive PortEffect (s : State) : State → Prop
  | read (octets : List Byte) (k : Nat) : PortEffect s { s with response := octets, draws := k }
  | store (r : Reg) (off n : Nat) (v : Wide) (hl : locked r s = false) :
    PortEffect s (writeReg r off n v { s with response := [] })
  | storeBadCrc (r : Reg) (off n : Nat) (v : Wide) (hl : locked r s = false) :
    PortEffect s (setEvent .spicrce (writeReg r off n v { s with response := [], draws := s.draws + 1 }))
  | storeDropped : PortEffect s (setEvent .spicrce { s with response := [], draws := s.draws + 1 })
  | cmdErr : PortEffect s (raiseCmdErr (commandStart s))
  | command {t : State} (hb : busy s = false) (hu : s.cal.cfgUndef = false) (h : CommandEffect (commandStart s) t) :
    PortEffect s t
  | softreset : PortEffect s (blockReset (commandStart s))

/-- A command that answers a next state and is not `SOFTRESET` raised `CmdErr` or had its body's effect. -/
theorem command_effect {argsOk : Bool} {admits extra : State → Bool} {body : State → Res}
    (h : command false argsOk admits extra body s = .next t)
    (hbody : ∀ u, admits u = true → extra u = true → body u = .next t → CommandEffect u t) : PortEffect s t := by
  obtain ⟨-, -, -, hu, rfl | ⟨-, hb, hm, he, h⟩⟩ := command_eq_next h
  · exact .cmdErr
  · exact .command (by simpa using hb) (by simpa using hu) (hbody _ hm he h)

theorem execTrxoff_effect (h : execTrxoff s = .next t) : PortEffect s t :=
  command_effect h fun u _ _ h => by cases h; exact .trxoff

theorem execTx_effect {start : Start} {w4r cca : Bool} (h : execTx start w4r cca s = .next t) : PortEffect s t :=
  command_effect h fun u hl _ h => by
    have hl : u.locus = .idlePll := by simpa using hl
    split at h
    · exact startTxNow_effect hl h
    · cases h; exact startTxDelayed_effect start w4r hl

theorem execRx_effect {start : Start} {i : Bool} (h : execRx start i s = .next t) : PortEffect s t :=
  command_effect h fun u hl _ h => by
    have hl : u.locus = .idlePll := by simpa using hl
    split at h
    · exact startRxNow_effect hl h
    · exact startRxDelayed_effect hl h

theorem execSetstate_effect {target : Target} (h : execSetstate target s = .next t) : PortEffect s t :=
  command_effect h fun u hi _ h => by cases h; exact setOpstate_effect target hi

theorem execCalrx_effect {pgf adc : Bool} (h : execCalrx pgf adc s = .next t) : PortEffect s t :=
  command_effect h fun u hl _ h => by cases h; exact .calrx pgf adc (by simpa [calrxAdmits] using hl)

theorem execXtalcomp_effect (h : execXtalcomp s = .next t) : PortEffect s t :=
  command_effect h fun u _ _ h => by cases h; exact .configured _ _ rfl

theorem execTxpwr_effect {idx : Byte} (h : execTxpwr idx s = .next t) : PortEffect s t :=
  command_effect h fun u _ _ h => by cases h; exact .configured _ _ rfl

theorem execDbfree_effect (h : execDbfree s = .next t) : PortEffect s t :=
  command_effect h fun u _ he h => by
    split at h
    · next hf => cases h; exact .dbfree he hf
    · cases h; exact .failed .cmderr

theorem execSleep_effect {deep : Bool} (h : execSleep deep s = .next t) : PortEffect s t :=
  command_effect h fun u hi _ h => by cases h; exact .sleep deep hi

theorem execSoftreset_effect (h : execSoftreset s = .next t) : PortEffect s t := by
  obtain ⟨-, -, -, -, rfl | ⟨-, -, -, -, h⟩⟩ := command_eq_next h
  · exact .cmdErr
  · cases h; exact .softreset

/-- A word that is no command's is never admitted: its arguments are not well formed. -/
theorem malformedCommand_effect {w : BitVec 16} (h : malformedCommand w s = .next t) : PortEffect s t := by
  obtain ⟨-, -, -, -, rfl | ⟨hargs, -⟩⟩ := command_eq_next h
  · exact .cmdErr
  · cases hargs

theorem issueCommand_effect {w : BitVec 16} (h : issueCommand w s = .next t) : PortEffect s t := by
  unfold issueCommand at h
  split at h
  · exact execTrxoff_effect h
  · exact execTx_effect h
  · exact execRx_effect h
  · exact execSetstate_effect h
  · exact execCalrx_effect h
  · exact execXtalcomp_effect h
  · exact execTxpwr_effect h
  · exact execDbfree_effect h
  · exact execSleep_effect h
  · exact execSoftreset_effect h
  all_goals exact malformedCommand_effect h

/-! ### Reads, writes and modifies -/

theorem portRead_effect {id off n : Byte} {width : Nat} (h : portRead id off n width s = .next t) : PortEffect s t := by
  obtain ⟨-, -, -, r, -, -, rfl⟩ := portRead_eq_next h
  unfold readReg
  split
  · exact .read _ _
  · exact .read _ _

/-- A write or modify of an unlocked register, under the transport CRC, whatever the value it computes. -/
theorem underCrc_effect {r : Reg} {off n : Nat} {v : State → Wide} (hl : locked r s = false)
    (h : underCrc { s with response := [] } (fun u => writeReg r off n (v u) u) = .next t) : PortEffect s t := by
  rcases underCrc_cases { s with response := [] } (fun u => writeReg r off n (v u) u) with hu | hu | hu <;>
    rw [hu] at h <;> cases h
  · exact .store r off n _ hl
  · exact .storeBadCrc r off n _ hl
  · exact .storeDropped

theorem portWrite_effect {id off n : Byte} {width : Nat} {v : Wide} (h : portWrite id off n width v s = .next t) :
    PortEffect s t := by
  obtain ⟨-, -, -, r, -, -, hl, h⟩ := portWrite_eq_next h
  exact underCrc_effect hl h

theorem portModify_effect {id off n : Byte} {width : Nat} {a o : Wide} (h : portModify id off n width a o s = .next t) :
    PortEffect s t := by
  obtain ⟨-, -, -, r, -, -, hl, -, -, h⟩ := portModify_eq_next h
  exact underCrc_effect hl h

theorem portCirRead_effect {region : Byte} {offset count : BitVec 16} {ks : List Nat}
    (h : portCirRead region offset count ks s = .next t) : PortEffect s t := by
  obtain ⟨-, -, h⟩ := atPort_eq_next h
  split at h
  · cases h
  · split at h
    · cases h; exact .read _ _
    · cases h

/-- A port operation refused for its count has no next state. -/
theorem atPort_refused_ne_next {e : Refusal} (h : (atPort s fun _ => .refused e) = .next t) : False := by
  obtain ⟨-, -, h⟩ := atPort_eq_next h
  cases h

theorem execRdbuf_effect {id off n : Byte} (h : execRdbuf id off n s = .next t) : PortEffect s t := by
  unfold execRdbuf at h
  split at h
  · exact portRead_effect h
  · exact (atPort_refused_ne_next h).elim

theorem execWr16_effect {id off n : Byte} {v : BitVec 16} (h : execWr16 id off n v s = .next t) : PortEffect s t := by
  unfold execWr16 at h
  split at h
  · exact issueCommand_effect h
  · exact portWrite_effect h

theorem execWrbuf_effect {id off n : Byte} {data : List Byte} (h : execWrbuf id off n data s = .next t) : PortEffect s t := by
  unfold execWrbuf at h
  split at h
  · exact portWrite_effect h
  · exact (atPort_refused_ne_next h).elim

/-- Every instruction that completes has one of the stated effects. -/
theorem exec_effect {i : Instr} (h : exec i s = .next t) : PortEffect s t := by
  cases i with
  | rd8 | rd16 | rd32 => exact portRead_effect h
  | rdbuf => exact execRdbuf_effect h
  | wr8 | wr32 => exact portWrite_effect h
  | wr16 => exact execWr16_effect h
  | wrbuf => exact execWrbuf_effect h
  | mod8 | mod16 | mod32 => exact portModify_effect h
  | cirrdF | cirrdR => exact portCirRead_effect h
  | trxoff => exact execTrxoff_effect h
  | tx => exact execTx_effect h
  | rx => exact execRx_effect h
  | setstate => exact execSetstate_effect h
  | calrx => exact execCalrx_effect h
  | xtalcomp => exact execXtalcomp_effect h
  | txpwr => exact execTxpwr_effect h
  | dbfree => exact execDbfree_effect h
  | sleep => exact execSleep_effect h
  | softreset => exact execSoftreset_effect h

/-! ### The port's first test (rules R100, R111) -/

theorem asleep_of_issueCommand {w : BitVec 16} (h : issueCommand w s = .next t) : asleep s = false := by
  unfold issueCommand at h
  split at h <;> exact (command_eq_next h).1

/-- An instruction that completes was offered to a block that was awake. -/
theorem asleep_of_exec {i : Instr} (h : exec i s = .next t) : asleep s = false := by
  cases i with
  | rd8 | rd16 | rd32 => exact (portRead_eq_next h).1
  | wr8 | wr32 => exact (portWrite_eq_next h).1
  | mod8 | mod16 | mod32 => exact (portModify_eq_next h).1
  | cirrdF | cirrdR =>
    simp only [exec, execCirrdF, execCirrdR, portCirRead] at h
    exact (atPort_eq_next h).1
  | rdbuf =>
    simp only [exec, execRdbuf] at h
    split at h
    · exact (portRead_eq_next h).1
    · exact (atPort_eq_next h).1
  | wr16 =>
    simp only [exec, execWr16] at h
    split at h
    · exact asleep_of_issueCommand h
    · exact (portWrite_eq_next h).1
  | wrbuf =>
    simp only [exec, execWrbuf] at h
    split at h
    · exact (portWrite_eq_next h).1
    · exact (atPort_eq_next h).1
  | _ =>
    simp only [exec, execTrxoff, execTx, execRx, execSetstate, execCalrx, execXtalcomp, execTxpwr, execDbfree, execSleep,
      execSoftreset] at h
    exact (command_eq_next h).1

/-! ### Transitions of agent `Seq` (rule R265) -/

/-- What a due transition does, with the phase it is due in. -/
inductive SeqEffect (s : State) : State → Prop
  | startTx (hl : s.locus = .tx .wait) : SeqEffect s (startArmedTx s)
  | ccaClear (hl : s.locus = .tx .cca) : SeqEffect s (ccaClear s)
  | rmarker (hl : s.locus = .tx .shr) : SeqEffect s (rmarker s)
  | txEnd {t : State} (hl : s.locus = .tx .data)
    (h : AttemptEffect { setEvent .txfrs s with dl.txend := none, txW4r := false } t) : SeqEffect s t
  | startRx {t : State} (hl : s.locus = .rx .wait) (h : startArmedRx s = .next t) : SeqEffect s t
  | rxTimeout (es : List Event) (p : RxPhase) (hl : s.locus = .rx p) (hp : p ≠ .wait) :
    SeqEffect s { rxStop (es.foldr setEvent s) with locus := .idlePll }
  | sniffSwitch (on : Bool) (d : Time) (hl : s.locus = .rx .hunt) (hd : d.toNat < 2 ^ 39) :
    SeqEffect s { s with sniffOn := on, dl.sniff := some (s.sysTime + d) }
  | counterWake (hl : s.locus = .sleep) : SeqEffect s (wake s)

/-- Timeouts set their events and the attempt ends. -/
theorem rxTimeout_effect {p : RxPhase} (hl : s.locus = .rx p) (hp : p ≠ .wait) : SeqEffect s (rxTimeout s) := by
  have hev : ∀ (c : Bool) (e : Event) (u : State), setEventIf c e u = (if c then [e] else []).foldr setEvent u := by
    intro c e u
    cases c <;> rfl
  simp only [rxTimeout, hev, ← List.foldr_append]
  exact .rxTimeout _ p hl hp

theorem sniffSwitch_effect (hl : s.locus = .rx .hunt) (h : sniffSwitch s = .next t) : SeqEffect s t := by
  unfold sniffSwitch at h
  split at h <;> split at h
  · next d hd => cases h; exact .sniffSwitch false d hl (interval_lt hd)
  · cases h
  · next d hd => cases h; exact .sniffSwitch true d hl (interval_lt hd)
  · cases h

theorem fire_effect {q : SeqStep} (hq : due s = some q) (h : fire q s = .next t) : SeqEffect s t := by
  unfold due at hq
  split at hq
  · next hl => split at hq <;> cases hq; cases h; exact .startTx hl
  · next hl => split at hq <;> cases hq; cases h; exact .ccaClear hl
  · next hl => split at hq <;> cases hq; cases h; exact .rmarker hl
  · next hl => split at hq <;> cases hq; exact .txEnd hl (endTx_effect h)
  · next hl => split at hq <;> cases hq; exact .startRx hl h
  · next hl =>
    split at hq
    · cases hq; cases h; exact rxTimeout_effect hl (by decide)
    · split at hq <;> cases hq; exact sniffSwitch_effect hl h
  · next hl => split at hq <;> cases hq; cases h; exact rxTimeout_effect hl (by decide)
  · next hl => split at hq <;> cases hq; cases h; exact rxTimeout_effect hl (by decide)
  · next hl => split at hq <;> cases hq; cases h; exact .counterWake hl
  all_goals cases hq

/-! ### Air events (rules R152, R167 to R171) -/

/-- What an admitted air event does, with the phase that admits it. A receive error has set its events before the
attempt ends, and goes on with a new hunt or in `IDLE_PLL`. -/
inductive AirEffect (s : State) : State → Prop
  | ccaBusy (hl : s.locus = .tx .cca) : AirEffect s (ccaBusy s)
  | preamble {t : State} (hl : s.locus = .rx .hunt) (h : preambleFound s = .next t) : AirEffect s t
  | sfd (hl : s.locus = .rx .sfdWait) : AirEffect s (sfdFound s)
  | phr (hl : s.locus = .rx .data) : AirEffect s { setEvent .rxphd s with phrOk := true }
  | good (len : BitVec 10) (rng : Bool) (m : Meas) {t : State} (hl : s.locus = .rx .data)
    (h : AttemptEffect (frameStored len rng m (setEvent .rxfcg (setEvent .rxfr s))) t) : AirEffect s t
  | errorEnd (es : List Event) (p : RxPhase) (hl : s.locus = .rx p) (hp : p ≠ .wait) :
    AirEffect s { rxStop (es.foldr setEvent s) with locus := .idlePll }
  | errorHunt (es : List Event) (p : RxPhase) {t : State} (hl : s.locus = .rx p) (hp : p ≠ .wait)
    (h : enterHunt (rxStop (es.foldr setEvent s)) = .next t) : AirEffect s t

/-- A receive error in a phase that is on the air ends the attempt. -/
theorem error_effect (es : List Event) {p : RxPhase} (hl : s.locus = .rx p) (hp : p ≠ .wait)
    (h : rxError (es.foldr setEvent s) = .next t) : AirEffect s t := by
  unfold rxError at h
  simp only at h
  split at h
  · exact .errorHunt es p hl hp h
  · cases h; exact .errorEnd es p hl hp

theorem frameEnd_effect {kind : FrameKind} {len : BitVec 10} {rng : Bool} {m : Meas} (hl : s.locus = .rx .data)
    (h : frameEnd kind len rng m s = .next t) : AirEffect s t := by
  cases kind with
  | good => exact .good len rng m hl (rxGood_effect h)
  | crcErr => exact error_effect [.rxfce, .rxfr] hl (by decide) h
  | rsErr => exact error_effect [.rxfsl] hl (by decide) h

theorem airStep_effect {e : AirEvent} (h : airStep e s = .next t) : AirEffect s t := by
  unfold airStep at h
  split at h
  · next hl => cases h; exact .ccaBusy hl
  · next hl => split at h <;> [exact .preamble hl h; cases h]
  · next hl => cases h; exact .sfd hl
  · next hl =>
    split at h
    · cases h
    · split at h
      · cases h; exact .phr hl
      · exact error_effect [.rxphe] hl (by decide) h
  · next hl => split at h <;> [exact frameEnd_effect hl h; cases h]
  · next hl => exact error_effect [.rxsloss] hl (by decide) h
  · next hl => exact error_effect [.rxsloss] hl (by decide) h
  · cases h

/-! ### Steps of agent `Cal` (rules R221 to R231) -/

/-- How a calibration goes on. -/
inductive CalNext : CalFsm → CalFsm → Prop
  | poll {l p : Nat} (h : p + 1 < Config.maxRetriesForPll) : CalNext (.pll l p) (.pll l (p + 1))
  | cycle {l p : Nat} (h : l + 1 < Config.maxPllCalLoop) : CalNext (.pll l p) (.pll (l + 1) 0)
  | attempt {n : Nat} {a : Bool} (h : n + 1 < Config.maxRetriesForPgf) : CalNext (.pgf n a) (.pgf (n + 1) a)
  | resistors {n : Nat} {a : Bool} : CalNext (.pgf n a) (.res a)
  | adc : CalNext (.res true) .adc

/-- The resistor results are as they were, or those of a measurement (rule R228). -/
inductive Measured (s : State) : State → Prop
  | not : Measured s s
  | resistors (i q : BitVec 29) : Measured s { s with rxCalResi := i.setWidth 32, rxCalResq := q.setWidth 32 }

/-- What a step of agent `Cal` does: PLL lock, one step further, or an end with a result. Only an end of the PLL's calibration unlocks
the PLL. -/
inductive CalEffect (s : State) : State → Prop
  | locked {l p : Nat} (cc : BitVec 16) (hc : s.calfsm = .pll l p) : CalEffect s (pllLock cc s)
  | onward {u : State} (c : CalFsm) (pgfDone : Bool) (hu : Measured s u) (hc : CalNext s.calfsm c) :
    CalEffect s { u with calfsm := c, cal.pgfDone := pgfDone }
  | ended {u : State} (code : ResultCode) (thr : BitVec 32) (cal : CalStatus) (hu : Measured s u) (hc : s.calfsm ≠ .none)
    (hp : cal.pllLocked = s.cal.pllLocked ∨ ∃ l p, s.calfsm = .pll l p) :
    CalEffect s (setResult code { u with calfsm := .none, adcThresh := thr, cal := cal })

theorem pllMiss_effect {l p : Nat} (hc : s.calfsm = .pll l p) : CalEffect s (pllMiss l p s) := by
  unfold pllMiss
  split
  · next h => exact .onward _ s.cal.pgfDone .not (hc ▸ .poll h)
  · split
    · next h => exact .onward _ s.cal.pgfDone .not (hc ▸ .cycle h)
    · exact .ended .errPllLock s.adcThresh _ .not (by simp [hc]) (.inr ⟨l, p, hc⟩)

theorem pgfAttempt_effect {n : Nat} {a : Bool} (ok : Bool) (hc : s.calfsm = .pgf n a) : CalEffect s (pgfAttempt ok n a s) := by
  unfold pgfAttempt
  split
  · exact .onward _ s.cal.pgfDone .not (hc ▸ .resistors)
  · split
    · next h => exact .onward _ s.cal.pgfDone .not (hc ▸ .attempt h)
    · exact .ended .errRxCalPgf s.adcThresh _ .not (by simp [hc]) (.inl rfl)

theorem resCheck_effect {a : Bool} (i q : BitVec 29) (hc : s.calfsm = .res a) : CalEffect s (resCheck i q a s) := by
  have hn : s.calfsm ≠ .none := by simp [hc]
  unfold resCheck
  simp only
  split
  · exact .ended .errRxCalResi s.adcThresh _ (.resistors i q) hn (.inl rfl)
  · split
    · exact .ended .errRxCalResq s.adcThresh _ (.resistors i q) hn (.inl rfl)
    · split
      · next ha => exact .onward .adc true (.resistors i q) (by rw [hc, ha]; exact .adc)
      · exact .ended (u := { s with rxCalResi := i.setWidth 32, rxCalResq := q.setWidth 32 }) .success s.adcThresh
          { s.cal with pgfDone := true } (.resistors i q) hn (.inl rfl)

theorem adcCal_effect (ok : Bool) (thr : BitVec 32) (hc : s.calfsm = .adc) : CalEffect s (adcCal ok thr s) := by
  have hn : s.calfsm ≠ .none := by simp [hc]
  unfold adcCal
  split
  · exact .ended (u := s) .success thr { s.cal with adcDone := true } .not hn (.inl rfl)
  · exact .ended .errRxAdcCal s.adcThresh _ .not hn (.inl rfl)

theorem calStep_effect {d : CalDraw} (h : calStep d s = .next t) : CalEffect s t := by
  obtain ⟨l, p, hc, rfl⟩ | ⟨n, a, hc, rfl⟩ | ⟨a, hc, rfl⟩ | ⟨hc, rfl⟩ := calStep_eq_next h
  · split
    · exact .locked d.cc hc
    · exact pllMiss_effect hc
  · exact pgfAttempt_effect d.ok hc
  · exact resCheck_effect d.resi d.resq hc
  · exact adcCal_effect d.ok d.thr hc

end Sys2Proof.Machine
end

section
/-! SUPPORT. A predicate that every source of steps keeps is kept by `step`: the induction over agents, done once. -/

namespace Sys2Proof.Machine

/-- Every source of steps keeps `P`: what is not the block's, agent `Seq`, the port, `Air`, `Cal`, the pins, reset, the clock and the
temperature sensor (rules R9, R264). -/
structure StepKeeps (P : State → Prop) : Prop where
  outside {s : State} (a : List Action) (k : Nat) (c : Bool) : P s → P { s with agenda := a, draws := k, crcOk := c }
  seq {s t : State} : P s → SeqEffect s t → P t
  port {s t : State} : P s → asleep s = false → PortEffect s t → P t
  air {s t : State} : P s → AirEffect s t → P t
  cal {s t : State} : P s → CalEffect s t → P t
  wake {s : State} : P s → P (wake s)
  reset {s : State} : P s → P (blockReset s)
  tick {s : State} : P s → due s = none → P (tick s)
  sensor {s : State} (x : BitVec 8) : P s → asleep s = false → P { s with tempSense := 0x0100#16 ||| x.setWidth 16 }

variable {P : State → Prop} {s t : State}

theorem StepKeeps.perform (hP : StepKeeps P) {a : Action} (hs : P s) (hd : due s = none) (h : perform a s = .next t) : P t := by
  cases a with
  | port octets c =>
    obtain ⟨i, -, h⟩ := portStep_eq_next h
    exact hP.port (hP.outside s.agenda s.draws c hs) (asleep_of_exec h) (exec_effect h)
  | wakePin =>
    cases h
    unfold pinWake
    split
    · exact hP.wake hs
    · exact hs
  | wakeCs =>
    cases h
    unfold pinCs
    split
    · exact hP.wake hs
    · exact hs
  | hardReset => cases h; exact hP.reset hs
  | tick => cases h; exact hP.tick hs hd
  | cal d => exact hP.cal hs (calStep_effect h)
  | air e => exact hP.air hs (airStep_effect h)
  | tempSample x =>
    simp only [Machine.perform, tempStep] at h
    split at h
    · cases h
    · next ha => cases h; exact hP.sensor x hs (by simpa using ha)

theorem StepKeeps.step (hP : StepKeeps P) (hs : P s) (h : step s = .next t) : P t := by
  obtain ⟨-, ⟨q, hq, h⟩ | ⟨hd, a, u, h, ⟨rest, -, rfl⟩ | ⟨-, -, rfl⟩⟩⟩ := step_eq_next h
  · exact hP.seq hs (fire_effect hq h)
  · exact hP.perform (hP.outside rest s.draws s.crcOk hs) hd h
  · exact hP.perform (hP.outside s.agenda (s.draws + 1) s.crcOk hs) hd h

end Sys2Proof.Machine
end

section
/-! SUPPORT. What a write of register octets can do, said once (rules R66, R104, R105, R113, R178, R236). -/

namespace Sys2Proof.Machine

/-- What a write of a register does: nothing to an `RO` register; new contents of the configuration, with some receive calibration
dropped, the double buffer reset where `DB_EN` changed, or the channel changed; status bits cleared, with the free that may bring; and
`CmdErr` for `CMD`. -/
inductive WriteEffect (r : Reg) (s : State) : State → Prop
  | readOnly : WriteEffect r s s
  | config (saved : Saved) (aonCfg sleepCnt : BitVec 16) (dxTime drefTime : Time) (pgfDone adcDone : Bool)
    (he : dbEnOf saved.sysCfg = dbEnOf s.saved.sysCfg) :
    WriteEffect r s { s with
      saved := saved, aonCfg := aonCfg, sleepCnt := sleepCnt, dxTime := dxTime, drefTime := drefTime
      cal := { s.cal with pgfDone := pgfDone, adcDone := adcDone } }
  | dbMode (saved : Saved) (pgfDone adcDone : Bool) :
    WriteEffect r s (resetDb { s with saved := saved, cal := { s.cal with pgfDone := pgfDone, adcDone := adcDone } })
  | channel (saved : Saved) (hr : r = .chanCtrl) (he : dbEnOf saved.sysCfg = dbEnOf s.saved.sysCfg) :
    WriteEffect r s (channelChanged { s with saved := saved })
  | status (m : BitVec 32) : WriteEffect r s { s with sysStatus := s.sysStatus &&& m }
  | statusFree (m : BitVec 32) (he : dbEnOf s.saved.sysCfg = true) (hf : s.db.full s.db.hostBuf = true) :
    WriteEffect r s (freeBuffer { s with sysStatus := s.sysStatus &&& m })
  | command : WriteEffect r s (raiseCmdErr s)

theorem setStale_eq (n v : Bool) (s : State) : ∃ x y, setStale n v s = { s with stale0 := x, stale1 := y } := by
  cases n
  · exact ⟨v, s.stale1, rfl⟩
  · exact ⟨s.stale0, v, rfl⟩

/-- A free marks the host's set stale and empty, and moves the host's pointer on (rule R182). -/
theorem freeBuffer_eq (s : State) :
    ∃ v x y, freeBuffer s = { s with
      sysStatus := v, stale0 := x, stale1 := y, db := { s.db.setFull s.db.hostBuf false with hostBuf := !s.db.hostBuf } } := by
  obtain ⟨x, y, h⟩ := setStale_eq s.db.hostBuf true
    { s with db := { s.db.setFull s.db.hostBuf false with hostBuf := !s.db.hostBuf } }
  simp only [freeBuffer, h]
  split
  · exact ⟨_, x, y, rfl⟩
  · exact ⟨_, x, y, rfl⟩

theorem writeStatus_effect (r : Reg) (off : Nat) (v : Wide) (s : State) : WriteEffect r s (writeStatus off v s) := by
  unfold writeStatus
  simp only
  split
  · next h =>
    simp only [Bool.and_eq_true] at h
    obtain ⟨⟨⟨-, he⟩, -⟩, hf⟩ := h
    exact .statusFree _ he hf
  · exact .status _

/-- A change of channel in an idle block unlocks the PLL, and leaves `IDLE_PLL` for `IDLE_RC` (rule R236). -/
theorem channelChanged_eq {s : State} (hi : idling s = true) :
    ∃ l, (l = .init ∧ s.locus = .init ∨ l = .idleRc) ∧ channelChanged s = { s with
      locus := l, cal := { s.cal with pgfDone := false, adcDone := false, pllLocked := false } } := by
  cases hl : s.locus with
  | init => exact ⟨.init, .inl ⟨rfl, rfl⟩, by simp [channelChanged, hl]⟩
  | idleRc => exact ⟨.idleRc, .inr rfl, by simp [channelChanged, hl]⟩
  | idlePll => exact ⟨.idleRc, .inr rfl, by simp [channelChanged, hl]⟩
  | tx p | rx p | sleep | deepSleep => simp [idling, hl] at hi

/-- A configuration register given a new content, with the side effects of that (rules R178, R236). -/
theorem writeEffects_effect {r : Reg} (w : Wide) (s : State) : WriteEffect r s (writeEffects r s (regPut r w s)) := by
  cases r with
  | sysCfg =>
    have same : ∀ a b : Bool, ¬(a != b) = true → b = a := by decide
    simp only [writeEffects]
    split <;> split
    · exact .dbMode _ _ _
    · next he => exact .config _ _ _ _ _ _ _ (same _ _ he)
    · exact .dbMode _ _ _
    · next he => exact .config _ _ _ _ _ _ _ (same _ _ he)
  | chanCtrl =>
    simp only [writeEffects]
    split
    · exact .channel _ rfl rfl
    · split
      · exact .config _ _ _ _ _ _ _ rfl
      · exact .config _ _ _ _ _ _ _ rfl
  | phyCfg | txFctrl =>
    simp only [writeEffects]
    split
    · exact .config _ _ _ _ _ _ _ rfl
    · exact .config _ _ _ _ _ _ _ rfl
  | _ => exact .config _ _ _ _ _ _ _ rfl

theorem writeReg_effect (r : Reg) (off n : Nat) (v : Wide) (s : State) : WriteEffect r s (writeReg r off n v s) := by
  unfold writeReg
  split
  · exact .readOnly
  · exact writeEffects_effect _ s
  · exact writeStatus_effect r off v s
  · exact .command

end Sys2Proof.Machine
end

section
/-! SUPPORT. The registers' invariant: reserved bits, result codes, the PDOA's range and the CIR memory's canonical form. -/

namespace Sys2Proof.Machine

variable {s t : State}

/-- What the registers' invariant speaks of. -/
abbrev regPart (s : State) :=
  (s.sysStatus, s.cmdResult, s.buf0, s.buf1, s.rxCalResi, s.rxCalResq, s.tempSense, s.cir)

/-- The invariant depends on its registers alone. -/
theorem RegInv.congr (hs : RegInv s) (h : regPart t = regPart s := by rfl) : RegInv t := by
  simp only [regPart, Prod.mk.injEq] at h
  obtain ⟨hst, hr, h0, h1, hi, hq, ht, hc⟩ := h
  exact {
    status := by rw [hst, hs.status]
    result := by rw [hr]; exact hs.result
    set0 := by rw [h0, hs.set0]
    set1 := by rw [h1, hs.set1]
    resistors := by rw [hi, hq]; exact hs.resistors
    sensor := by rw [ht, hs.sensor]
    memory := by rw [hc]; exact hs.memory }

/-! ### Status and result -/

/-- Every event has one of the 23 lower bits of `SYS_STATUS` (rule R25). -/
theorem eventMask_ushiftRight (e : Event) : eventMask e >>> 23 = 0 := by
  cases e <;> rfl

theorem RegInv.setEvent (hs : RegInv s) (e : Event) : RegInv (setEvent e s) :=
  { hs with status := by rw [setEvent_sysStatus, BitVec.ushiftRight_or_distrib, hs.status, eventMask_ushiftRight]; rfl }

theorem RegInv.setEvents (hs : RegInv s) (es : List Event) : RegInv (es.foldr Machine.setEvent s) := by
  induction es with
  | nil => exact hs
  | cons e es ih => exact ih.setEvent e

/-- Clearing status bits sets none. -/
theorem RegInv.maskStatus (hs : RegInv s) (m : BitVec 32) : RegInv { s with sysStatus := s.sysStatus &&& m } :=
  { hs with status := by rw [BitVec.ushiftRight_and_distrib, hs.status]; exact BitVec.zero_and }

theorem RegInv.clearEvent (hs : RegInv s) (e : Event) : RegInv (clearEvent e s) :=
  hs.maskStatus _

theorem RegInv.setResult (hs : RegInv s) (c : ResultCode) : RegInv (setResult c s) :=
  RegInv.setEvent (s := { s with cmdResult := resultByte c }) { hs with result := ⟨c, rfl⟩ } .cmddone

theorem RegInv.raiseCmdErr (hs : RegInv s) : RegInv (raiseCmdErr s) :=
  (hs.setEvent .cmderr).setResult .error

/-! ### Reset, sleep, wake -/

/-- The registers' invariant holds after reset. -/
theorem regInv_reset : RegInv State.reset where
  status := by decide
  result := ⟨.success, rfl⟩
  set0 := by decide
  set1 := by decide
  resistors := by decide
  sensor := by decide
  memory := reset_cir_wf

theorem regInv_blockReset (s : State) : RegInv (blockReset s) :=
  regInv_reset.congr

theorem regInv_wake (s : State) : RegInv (wake s) :=
  RegInv.setEvent (regInv_reset.congr (by rfl)) .woke

/-! ### Writes -/

theorem RegInv.freeBuffer (hs : RegInv s) : RegInv (freeBuffer s) := by
  have hs' : RegInv (setStale s.db.hostBuf true { s with db := { s.db.setFull s.db.hostBuf false with hostBuf := !s.db.hostBuf } }) :=
    hs.congr (by simp)
  unfold Machine.freeBuffer
  simp only
  split
  · exact ((hs'.setEvent .rxfr).setEvent .rxfcg).setEvent .ciadone
  · exact hs'

theorem RegInv.channelChanged (hs : RegInv s) : RegInv (channelChanged s) := by
  unfold Machine.channelChanged
  split <;> exact hs.congr

theorem RegInv.writeEffect {r : Reg} (hs : RegInv s) (h : WriteEffect r s t) : RegInv t := by
  cases h with
  | readOnly => exact hs
  | config | dbMode => exact hs.congr
  | channel saved => exact RegInv.channelChanged (s := { s with saved := saved }) hs.congr
  | status m => exact hs.maskStatus m
  | statusFree m => exact (hs.maskStatus m).freeBuffer
  | command => exact hs.raiseCmdErr

/-! ### The effects of a step -/

theorem RegInv.enterHunt (hs : RegInv s) (h : enterHunt s = .next t) : RegInv t := by
  obtain ⟨_, _, _, -, -, -, rfl⟩ := enterHunt_eq_next h
  exact hs.congr

theorem RegInv.attemptEffect (hs : RegInv s) (h : AttemptEffect s t) : RegInv t := by
  cases h with
  | idle | sleep => exact hs.congr
  | overrun => exact RegInv.setEvent (s := { s with locus := .idlePll }) hs.congr .rxovrr
  | hunt ho h => exact hs.enterHunt h

theorem RegInv.commandEffect (hs : RegInv s) (h : CommandEffect s t) : RegInv t := by
  cases h with
  | failed e => exact (hs.setEvent e).setResult .error
  | rxOn c es hl h => exact ((hs.setEvents es).attemptEffect h).setResult c
  | dbfree => exact hs.freeBuffer.setResult .success
  | sleep => exact (hs.setResult .success).congr
  | locking | calrx => exact hs.congr
  | trxoff =>
    refine RegInv.setResult ?_ .success
    unfold forceOff
    split
    · exact hs.congr
    · exact hs
  | done | txShr | txCca | txArmed | rxArmed | unlocked | configured => exact RegInv.setResult hs.congr .success

theorem RegInv.portEffect (hs : RegInv s) (h : PortEffect s t) : RegInv t := by
  have hc : RegInv (commandStart s) := RegInv.clearEvent hs.congr .cmddone
  cases h with
  | read => exact hs.congr
  | store r off n v => exact RegInv.writeEffect hs.congr (writeReg_effect r off n v _)
  | storeBadCrc r off n v => exact (RegInv.writeEffect hs.congr (writeReg_effect r off n v _)).setEvent .spicrce
  | storeDropped => exact RegInv.setEvent hs.congr .spicrce
  | cmdErr => exact hc.raiseCmdErr
  | command hb hu h => exact hc.commandEffect h
  | softreset => exact regInv_blockReset _

theorem RegInv.seqEffect (hs : RegInv s) (h : SeqEffect s t) : RegInv t := by
  cases h with
  | startTx | ccaClear | rmarker | sniffSwitch => exact hs.congr
  | txEnd hl h => exact RegInv.attemptEffect (hs.setEvent .txfrs).congr h
  | startRx hl h => exact RegInv.enterHunt hs.congr h
  | rxTimeout es => exact (hs.setEvents es).congr
  | counterWake => exact regInv_wake s

/-! ### A good frame (rule R191) -/

/-- `RX_FINFO` of a frame has its 21 upper bits zero (rule R39). -/
theorem rxFinfo_ushiftRight (len : BitVec 10) (rng : Bool) :
    (len.setWidth 32 ||| ((BitVec.ofBool rng).setWidth 32 <<< 10)) >>> 11 = 0#32 := by
  refine BitVec.eq_of_getLsbD_eq fun i _ => ?_
  have hl : len.getLsbD (11 + i) = false := BitVec.getLsbD_of_ge _ _ (by omega)
  have hr : (BitVec.ofBool rng).getLsbD (11 + i - 10) = false := BitVec.getLsbD_of_ge _ _ (by omega)
  simp [hl, hr]

/-- `RX_TDOA` of a frame has its 7 upper bits zero (rule R194). -/
theorem tdoaReg_ushiftRight (mode : BitVec 2) (m : Meas) : tdoaReg mode m >>> 41 = 0 := by
  rcases tdoaReg_cases mode m with ⟨ta, tb, h⟩ | h
  · rw [h, tdoaOf_ushiftRight]
  · rw [h]
    rfl

/-- What a good frame leaves in a buffer set has its reserved bits zero and the PDOA in range (rules R39, R40, R207). -/
theorem bufFits_ciaBuf (len : BitVec 10) (rng : Bool) (m : Meas) (s : State) : bufFits (ciaBuf len rng m s) = true := by
  obtain ⟨hlo, hhi, hp⟩ := pdoaReg_bounds (pdoaModeOf s.saved.sysCfg) (pdoaAdjOf s.saved.ciaAdjust) m
  have hhi' := Int.lt_of_le_of_lt hhi (show (6433 : Int) < 6434 by decide)
  simp only [bufFits, ciaBuf, rxFinfo_ushiftRight, setWidth_ushiftRight_self, tdoaReg_ushiftRight, hp, Config.piQ11]
  simp [hlo, hhi']

theorem RegInv.setBuf {b : BufSet} (hs : RegInv s) (hb : bufFits b = true) (n : Bool) : RegInv (setBuf n b s) := by
  cases n
  · exact { hs with set0 := hb }
  · exact { hs with set1 := hb }

theorem RegInv.frameStored (hs : RegInv s) (len : BitVec 10) (rng : Bool) (m : Meas) : RegInv (frameStored len rng m s) := by
  have hb : RegInv (Machine.setBuf (fillIndex s) (ciaBuf len rng m s) s) := hs.setBuf (bufFits_ciaBuf len rng m s) _
  have hw : RegInv (ciaWrite (fillIndex s) len rng m s) :=
    RegInv.setEvent
      (s := { Machine.setBuf (fillIndex s) (ciaBuf len rng m s) s with
        cir := cirCells m, rxStampLast := rxAdjusted m.toaIp s.saved.rxAntd })
      { hb with memory := cirCells_wf m } .ciadone
  have hf : RegInv (fillBuffer (fillIndex s) (ciaWrite (fillIndex s) len rng m s)) := by
    unfold fillBuffer
    simp only
    split <;> exact hw.congr (by simp)
  exact hf.congr

theorem RegInv.airEffect (hs : RegInv s) (h : AirEffect s t) : RegInv t := by
  cases h with
  | ccaBusy => exact (hs.setEvent .ccafail).congr
  | preamble hl h =>
    unfold preambleFound at h
    split at h <;> cases h
    exact (hs.setEvent .rxprd).congr
  | sfd => exact (hs.setEvent .rxsfdd).congr
  | phr => exact (hs.setEvent .rxphd).congr
  | good len rng m hl h => exact (((hs.setEvent .rxfr).setEvent .rxfcg).frameStored len rng m).attemptEffect h
  | errorEnd es => exact (hs.setEvents es).congr
  | errorHunt es p hl hp h => exact RegInv.enterHunt (hs.setEvents es).congr h

/-! ### Calibration -/

theorem RegInv.measured (hs : RegInv s) (h : Measured s t) : RegInv t := by
  cases h with
  | not => exact hs
  | resistors i q => exact { hs with resistors := ⟨setWidth_ushiftRight_self i, setWidth_ushiftRight_self q⟩ }

theorem RegInv.calEffect (hs : RegInv s) (h : CalEffect s t) : RegInv t := by
  cases h with
  | locked cc hc => exact RegInv.setResult (RegInv.setEvent hs.congr .cplock) .success
  | onward c p hu => exact (hs.measured hu).congr
  | ended code thr cal hu => exact RegInv.setResult (hs.measured hu).congr code

/-- A temperature sample sets bit 8 and no higher bit of `TEMP_SENSE` (rule R240). -/
theorem tempSense_ushiftRight (x : BitVec 8) : (0x0100#16 ||| x.setWidth 16) >>> 9 = 0 := by
  revert x
  decide

/-- Every source of steps keeps the registers' invariant. -/
theorem regInv_stepKeeps : StepKeeps RegInv where
  outside _ _ _ hs := hs.congr
  seq hs h := hs.seqEffect h
  port hs _ h := hs.portEffect h
  air hs h := hs.airEffect h
  cal hs h := hs.calEffect h
  wake _ := regInv_wake _
  reset _ := regInv_blockReset _
  tick hs _ := by
    unfold tick
    split <;> exact hs.congr
  sensor x hs _ := { hs with sensor := tempSense_ushiftRight x }

end Sys2Proof.Machine
end

section
/-! SUPPORT. The double buffer's invariant: fills and frees keep pointers and flags consistent, and the receiver is enabled only over
an empty buffer set. -/

namespace Sys2Proof.Machine

variable {s t : State}

/-! ### `DB_STATUS` alone (rules R180, R182, R183) -/

/-- A fill of the empty set the hardware points at keeps `DB_STATUS` consistent. -/
theorem dbConsistent_fill {d : DbStatus} (h : dbConsistent d = true) (hf : d.full d.hwBuf = false) :
    dbConsistent { d.setFull d.hwBuf true with hwBuf := !d.hwBuf } = true := by
  obtain ⟨hw, host, f0, f1⟩ := d
  revert hw host f0 f1
  decide

/-- A free of the full set the host points at keeps `DB_STATUS` consistent and leaves room for a frame. -/
theorem dbConsistent_free {d : DbStatus} (h : dbConsistent d = true) (hf : d.full d.hostBuf = true) :
    dbConsistent { d.setFull d.hostBuf false with hostBuf := !d.hostBuf } = true ∧
      DbStatus.full { d.setFull d.hostBuf false with hostBuf := !d.hostBuf } (d.setFull d.hostBuf false).hwBuf = false := by
  obtain ⟨hw, host, f0, f1⟩ := d
  revert hw host f0 f1
  decide

/-! ### What the invariant depends on -/

/-- The invariant depends on `DB_EN`, `DB_STATUS` and the operating state. -/
theorem DbInv.congr (hs : DbInv s) (he : dbEnOf t.saved.sysCfg = dbEnOf s.saved.sysCfg := by rfl) (hd : t.db = s.db := by rfl)
    (hl : receiving t.locus = receiving s.locus := by rfl) : DbInv t where
  off h := by rw [hd, hs.off (he ▸ h)]
  consistent := by rw [hd, hs.consistent]
  room hr h := by rw [hd]; exact hs.room (hl ▸ hr) (he ▸ h)

/-- With the receiver off, only `DB_EN` and `DB_STATUS` count. -/
theorem DbInv.receiverOff (hs : DbInv s) (hr : receiving t.locus = false := by rfl)
    (he : dbEnOf t.saved.sysCfg = dbEnOf s.saved.sysCfg := by rfl) (hd : t.db = s.db := by rfl) : DbInv t where
  off h := by rw [hd, hs.off (he ▸ h)]
  consistent := by rw [hd, hs.consistent]
  room h := by rw [hr] at h; cases h

/-- With the receiver on, there has to be room. -/
theorem DbInv.receiverOn (hs : DbInv s) (ho : overrun s = false) (he : dbEnOf t.saved.sysCfg = dbEnOf s.saved.sysCfg := by rfl)
    (hd : t.db = s.db := by rfl) : DbInv t where
  off h := by rw [hd, hs.off (he ▸ h)]
  consistent := by rw [hd, hs.consistent]
  room _ h := by
    rw [he] at h
    rw [hd]
    simpa [overrun, h] using ho

/-- A receiver that is on has room. -/
theorem DbInv.no_overrun (hs : DbInv s) (hr : receiving s.locus = true) : overrun s = false := by
  cases he : dbEnOf s.saved.sysCfg
  · simp [overrun, he]
  · simp [overrun, he, hs.room hr he]

/-- An empty double buffer meets the invariant in every mode. -/
theorem dbInv_empty (hd : s.db = { hwBuf := false, hostBuf := false, full0 := false, full1 := false } := by rfl) : DbInv s where
  off _ := hd
  consistent := by rw [hd]; rfl
  room _ _ := by rw [hd]; rfl

theorem DbInv.setEvent (hs : DbInv s) (e : Event) : DbInv (setEvent e s) :=
  hs.congr

/-! ### Frees, fills and writes -/

theorem DbInv.freeBuffer (hs : DbInv s) (he : dbEnOf s.saved.sysCfg = true) (hf : s.db.full s.db.hostBuf = true) :
    DbInv (freeBuffer s) := by
  obtain ⟨hc, hr⟩ := dbConsistent_free hs.consistent hf
  obtain ⟨v, x, y, h⟩ := freeBuffer_eq s
  rw [h]
  exact {
    off := fun h => absurd h (ne_false_of_eq_true he)
    consistent := hc
    room := fun _ _ => hr }

/-- A fill marks the set fresh and, in double-buffer mode, full, and moves the hardware's pointer on (rule R180). -/
theorem fillBuffer_eq (n : Bool) (s : State) :
    ∃ x y, fillBuffer n s = { s with
      stale0 := x, stale1 := y
      db := if dbEnOf s.saved.sysCfg then { s.db.setFull n true with hwBuf := !n } else s.db } := by
  have hsv : (setStale n false s).saved = s.saved := setStale_saved s n false
  unfold fillBuffer
  simp only [hsv]
  cases n <;> split <;> exact ⟨_, _, rfl⟩

/-- A stored frame changes the results, the CIR memory and `DB_STATUS`, and stops the receiver's attempt. -/
theorem frameStored_eq (len : BitVec 10) (rng : Bool) (m : Meas) (s : State) :
    ∃ v b₀ b₁ x y c r, frameStored len rng m s = rxStop { s with
      sysStatus := v, buf0 := b₀, buf1 := b₁, stale0 := x, stale1 := y, cir := c, rxStampLast := r
      db := if dbEnOf s.saved.sysCfg then { s.db.setFull s.db.hwBuf true with hwBuf := !s.db.hwBuf } else s.db } := by
  obtain ⟨x, y, hf⟩ := fillBuffer_eq (fillIndex s) (ciaWrite (fillIndex s) len rng m s)
  have hw : ∃ v b₀ b₁ c r, ciaWrite (fillIndex s) len rng m s =
      { s with sysStatus := v, buf0 := b₀, buf1 := b₁, cir := c, rxStampLast := r } := by
    cases fillIndex s <;> exact ⟨_, _, _, _, _, rfl⟩
  obtain ⟨v, b₀, b₁, c, r, hw⟩ := hw
  refine ⟨v, b₀, b₁, x, y, c, r, ?_⟩
  rw [frameStored, hf, hw]
  cases he : dbEnOf s.saved.sysCfg
  · simp only [Bool.false_eq_true, if_false]
  · simp only [he, fillIndex, Bool.true_and, if_true]

theorem DbInv.writeEffect {r : Reg} (hs : DbInv s) (h : WriteEffect r s t) : DbInv t := by
  cases h with
  | readOnly => exact hs
  | config saved _ _ _ _ _ _ he => exact hs.congr (he := he)
  | dbMode => exact dbInv_empty
  | channel saved hr he =>
    unfold channelChanged
    split
    · next hl => exact hs.receiverOff (he := he)
    all_goals exact hs.congr (he := he)
  | status => exact hs.congr
  | statusFree m he hf => exact DbInv.freeBuffer (s := { s with sysStatus := s.sysStatus &&& m }) hs.congr he hf
  | command => exact hs.congr

/-- A frame is stored where the receiver had room; whether there is room for another is not said. -/
theorem DbInv.frameStored (hs : DbInv s) (hr : receiving s.locus = true) (len : BitVec 10) (rng : Bool) (m : Meas) :
    DbInv { frameStored len rng m s with locus := .idlePll } := by
  obtain ⟨v, b₀, b₁, x, y, c, r, h⟩ := frameStored_eq len rng m s
  rw [h]
  cases he : dbEnOf s.saved.sysCfg
  · exact hs.receiverOff
  · exact {
      off := fun h => absurd h (ne_false_of_eq_true he)
      consistent := dbConsistent_fill hs.consistent (hs.room hr he)
      room := fun h => by cases h }

/-! ### The effects of a step -/

theorem dbInv_of_enterHunt (h : enterHunt s = .next t) (hs : DbInv s) (ho : overrun s = false) : DbInv t := by
  obtain ⟨_, _, _, -, -, -, rfl⟩ := enterHunt_eq_next h
  exact hs.receiverOn ho

/-- After an attempt the receiver is off, or on again over an empty set: what was so with the receiver off stays so. -/
theorem DbInv.attemptEffect (hs : DbInv { s with locus := .idlePll }) (h : AttemptEffect s t) : DbInv t := by
  cases h with
  | idle => exact hs
  | sleep deep => exact hs.receiverOff (by cases deep <;> rfl)
  | overrun => exact hs.receiverOff
  | hunt ho h =>
    obtain ⟨_, _, _, -, -, -, rfl⟩ := enterHunt_eq_next h
    exact hs.receiverOn ho

theorem DbInv.commandEffect (hs : DbInv s) (h : CommandEffect s t) : DbInv t := by
  cases h with
  | rxOn c es hl h =>
    rw [setEvents_eq] at h
    exact (DbInv.attemptEffect hs.receiverOff h).congr
  | rxArmed T hl ho => exact hs.receiverOn ho
  | dbfree he hf => exact (hs.freeBuffer he hf).congr
  | sleep deep => exact hs.receiverOff (by cases deep <;> rfl)
  | trxoff =>
    unfold forceOff
    split
    · exact hs.receiverOff
    · exact hs.congr
  | unlocked l hi hl => exact hs.receiverOff (by rcases hl with rfl | rfl <;> rfl)
  | configured saved idx hc => exact hs.congr (he := congrArg dbEnOf hc)
  | failed | done | calrx => exact hs.congr
  | locking | txShr | txCca | txArmed => exact hs.receiverOff

theorem DbInv.portEffect (hs : DbInv s) (h : PortEffect s t) : DbInv t := by
  have hc : DbInv (commandStart s) := hs.congr
  cases h with
  | store r off n v => exact DbInv.writeEffect hs.congr (writeReg_effect r off n v _)
  | storeBadCrc r off n v => exact (DbInv.writeEffect hs.congr (writeReg_effect r off n v _)).setEvent .spicrce
  | command hb hu h => exact hc.commandEffect h
  | softreset => exact dbInv_empty
  | read | storeDropped | cmdErr => exact hs.congr

theorem DbInv.seqEffect (hs : DbInv s) (h : SeqEffect s t) : DbInv t := by
  cases h with
  | startTx | ccaClear | rmarker => exact hs.receiverOff
  | rxTimeout es =>
    rw [setEvents_eq]
    exact hs.receiverOff
  | sniffSwitch => exact hs.congr
  | txEnd hl h => exact DbInv.attemptEffect hs.receiverOff h
  | startRx hl h => exact dbInv_of_enterHunt h hs.congr (hs.no_overrun (by rw [hl]; rfl))
  | counterWake => exact dbInv_empty

theorem DbInv.airEffect (hs : DbInv s) (h : AirEffect s t) : DbInv t := by
  cases h with
  | ccaBusy => exact hs.receiverOff
  | preamble hl h =>
    unfold preambleFound at h
    split at h <;> cases h
    exact hs.congr (hl := by rw [hl]; rfl)
  | sfd hl => exact hs.congr (hl := by rw [hl]; rfl)
  | phr => exact hs.congr
  | good len rng m hl h => exact (DbInv.frameStored hs.congr (by simp [hl, receiving]) len rng m).attemptEffect h
  | errorEnd es =>
    rw [setEvents_eq]
    exact hs.receiverOff
  | errorHunt es p hl hp h =>
    rw [setEvents_eq] at h
    exact dbInv_of_enterHunt h hs.congr (hs.no_overrun (by rw [hl]; rfl))

theorem DbInv.calEffect (hs : DbInv s) (h : CalEffect s t) : DbInv t := by
  cases h with
  | locked => exact hs.receiverOff
  | onward c p hu =>
    cases hu <;> exact hs.congr
  | ended code thr cal hu =>
    cases hu <;> exact hs.congr

/-- Every source of steps keeps the double buffer's invariant. -/
theorem dbInv_stepKeeps : StepKeeps DbInv where
  outside _ _ _ hs := hs.congr
  seq hs h := hs.seqEffect h
  port hs _ h := hs.portEffect h
  air hs h := hs.airEffect h
  cal hs h := hs.calEffect h
  wake _ := dbInv_empty
  reset _ := dbInv_empty
  tick hs _ := by
    unfold tick
    split <;> exact hs.congr
  sensor _ hs _ := hs.congr

end Sys2Proof.Machine
end

section
/-! SUPPORT. The sequencer's invariant: which deadlines are armed in a phase and that none is missed, the calibration machine's place,
the PLL lock and the hidden flags. -/

namespace Sys2Proof.Machine

variable {s t : State}

/-! ### Deadlines and time (rules R47, R144, R265) -/

theorem notPassed_some (T now : Time) : notPassed (some T) now = !late T now := rfl

theorem notPassed_of_not_late {T now : Time} (h : late T now = false) : notPassed (some T) now = true := by
  rw [notPassed_some, h]
  rfl

/-- A deadline less than half a turn ahead has not passed. -/
theorem notPassed_ahead {now d : Time} (hd : d.toNat < 2 ^ 39) : notPassed (some (now + d)) now = true := by
  rw [notPassed_some, Bool.not_eq_true', ← Bool.not_eq_true, late_iff, BitVec.add_comm, BitVec.add_sub_cancel]
  omega

/-- A 39-bit interval is less than half a turn. -/
theorem toNat_setWidth_lt (d : BitVec 39) : (d.setWidth 40).toNat < 2 ^ 39 := by
  have := d.isLt
  rw [BitVec.toNat_setWidth]
  omega

theorem notPassed_deadlineAfter {now : Time} {count unit : Nat} {d : Option Time} (h : deadlineAfter now count unit = some d) :
    notPassed d now = true := by
  obtain ⟨-, rfl⟩ | ⟨-, hlt, rfl⟩ := deadlineAfter_eq_some h
  · rfl
  · exact notPassed_ahead (by rw [BitVec.toNat_ofNat]; omega)

theorem notPassed_sniffFirst {d : Option Time} (h : sniffFirst s = some d) : notPassed d s.sysTime = true := by
  unfold sniffFirst at h
  split at h
  · cases h; rfl
  · exact notPassed_deadlineAfter h

/-- A deadline that has neither passed nor come has not passed one unit later. -/
theorem notPassed_succ {d : Option Time} {now : Time} (h : notPassed d now = true) (hd : d ≠ some now) :
    notPassed d (now + 1) = true := by
  cases d with
  | none => rfl
  | some T =>
    have hne : T.toNat ≠ now.toNat := fun h => hd (congrArg some (BitVec.eq_of_toNat_eq h))
    have hT := T.isLt
    have hn := now.isLt
    simp only [notPassed_some, Bool.not_eq_true', ← Bool.not_eq_true, late_iff, BitVec.toNat_sub, BitVec.toNat_add,
      show (1 : Time).toNat = 1 from rfl] at h ⊢
    omega

/-- No armed deadline has passed. -/
structure Ahead (d : Deadlines) (now : Time) : Prop where
  start : notPassed d.start now = true
  cca : notPassed d.cca now = true
  rmark : notPassed d.rmark now = true
  txend : notPassed d.txend now = true
  fwto : notPassed d.fwto now = true
  pre : notPassed d.pre now = true
  sfd : notPassed d.sfd now = true
  sniff : notPassed d.sniff now = true

theorem ahead_none (now : Time) : Ahead Deadlines.none now :=
  ⟨rfl, rfl, rfl, rfl, rfl, rfl, rfl, rfl⟩

/-- The sleep counter has not run past its target (rule R130). -/
def counterAhead (s : State) : Bool :=
  s.locus != .sleep || !wakeCntOf s.aonCfg || s.sleepCnt == 0 || s.aonElapsed ≤ s.sleepCnt.toNat * Config.lpUnit

theorem noneMissed_iff : noneMissed s = true ↔ Ahead s.dl s.sysTime ∧ counterAhead s = true := by
  unfold noneMissed
  simp only [Bool.and_eq_true]
  constructor
  · rintro ⟨⟨⟨⟨⟨⟨⟨⟨h1, h2⟩, h3⟩, h4⟩, h5⟩, h6⟩, h7⟩, h8⟩, h9⟩
    exact ⟨⟨h1, h2, h3, h4, h5, h6, h7, h8⟩, h9⟩
  · rintro ⟨⟨h1, h2, h3, h4, h5, h6, h7, h8⟩, h9⟩
    exact ⟨⟨⟨⟨⟨⟨⟨⟨h1, h2⟩, h3⟩, h4⟩, h5⟩, h6⟩, h7⟩, h8⟩, h9⟩

/-- Outside `SLEEP` only the deadlines count. -/
theorem noneMissed_of_ahead (hl : s.locus ≠ .sleep) (hd : Ahead s.dl s.sysTime) : noneMissed s = true :=
  noneMissed_iff.2 ⟨hd, by simp [counterAhead, hl]⟩

/-! ### What the invariant depends on -/

/-- What the sequencer's invariant speaks of in every state. -/
abbrev seqPart (s : State) :=
  (s.locus, s.calfsm, s.dl, s.cal.pllLocked, s.cal.cfgUndef, s.sniffOn, s.phrOk, s.txW4r, s.sysTime)

/-- What it speaks of besides in a state asleep. -/
abbrev aonPart (s : State) := (s.aonCfg, s.sleepCnt, s.aonElapsed)

theorem locus_ne_sleep (ha : asleep s = false) : s.locus ≠ .sleep := by
  intro h
  simp [asleep, h] at ha

theorem SeqInv.congr (hs : SeqInv s) (h : seqPart t = seqPart s := by rfl)
    (ha : asleep s = true → aonPart t = aonPart s := by exact fun _ => rfl) : SeqInv t := by
  simp only [seqPart, Prod.mk.injEq] at h
  obtain ⟨hl, hc, hd, hp, hu, hn, hf, hw, ht⟩ := h
  have hm : noneMissed t = true := by
    obtain ⟨hm, hc⟩ := noneMissed_iff.1 hs.onTime
    have hm : Ahead t.dl t.sysTime := by rw [hd, ht]; exact hm
    cases hk : asleep s
    · exact noneMissed_of_ahead (by rw [hl]; exact locus_ne_sleep hk) hm
    · obtain ⟨h1, h2, h3⟩ : t.aonCfg = s.aonCfg ∧ t.sleepCnt = s.sleepCnt ∧ t.aonElapsed = s.aonElapsed := by
        simpa using ha hk
      exact noneMissed_iff.2 ⟨hm, by rw [counterAhead, hl, h1, h2, h3]; exact hc⟩
  exact {
    deadlines := by rw [hl, hd]; exact hs.deadlines
    calibration := by rw [hl, hc]; exact hs.calibration
    pll := by rw [hl, hp]; exact hs.pll
    undef := by rw [hu, hc, hl]; exact hs.undef
    sniff := by rw [hn, hl, hd]; exact hs.sniff
    phr := by rw [hf, hl]; exact hs.phr
    w4r := by rw [hw, hl]; exact hs.w4r
    onTime := hm }

/-- Awake, the always-on registers do not count. -/
theorem SeqInv.congr_awake (hs : SeqInv s) (ha : asleep s = false) (h : seqPart t = seqPart s := by rfl) : SeqInv t :=
  hs.congr h fun hk => absurd hk (ne_true_of_eq_false ha)

/-! ### Parts of the invariant that the steps hand on -/

/-- No attempt is under way: no deadline is armed and the receiver's flags are at rest. -/
structure Quiet (s : State) : Prop where
  dl : s.dl = Deadlines.none
  sniff : s.sniffOn = true
  phr : s.phrOk = false

theorem Quiet.ahead (hq : Quiet s) : Ahead s.dl s.sysTime :=
  hq.dl ▸ ahead_none _

/-- The PLL is locked, no calibration runs and the configuration is defined. -/
structure PllReady (s : State) : Prop where
  free : s.calfsm = .none
  locked : s.cal.pllLocked = true
  defined : s.cal.cfgUndef = false

theorem SeqInv.sniff_on (hs : SeqInv s) (hl : s.locus ≠ .rx .hunt) : s.sniffOn = true := by
  by_contra h
  exact hl (hs.sniff (by simpa using h)).1

theorem SeqInv.phr_off (hs : SeqInv s) (hl : s.locus ≠ .rx .data) : s.phrOk = false := by
  by_contra h
  exact hl (hs.phr (by simpa using h))

/-- Outside `TX` and `RX` no attempt is under way. -/
theorem SeqInv.quiet (hs : SeqInv s) (ha : active s = false) : Quiet s where
  dl := by
    have hd := hs.deadlines
    cases hl : s.locus with
    | tx p | rx p => simp [active, hl] at ha
    | _ => simpa [deadlinesFit, hl] using hd
  sniff := hs.sniff_on fun hl => by simp [active, hl] at ha
  phr := hs.phr_off fun hl => by simp [active, hl] at ha

/-- `tx_w4r` is 0 outside `TX` (rule R47). -/
theorem SeqInv.not_w4r (hs : SeqInv s) (hl : ∀ p, s.locus ≠ .tx p) : s.txW4r = false := by
  by_contra h
  obtain ⟨p, hp⟩ := hs.w4r (by simpa using h)
  exact hl p hp

theorem SeqInv.quiet_of_idling (hs : SeqInv s) (hi : idling s = true) : Quiet s ∧ s.txW4r = false := by
  constructor
  · refine hs.quiet ?_
    cases hl : s.locus <;> simp [idling, active, hl] at hi ⊢
  · refine hs.not_w4r fun p hl => ?_
    simp [idling, hl] at hi

theorem SeqInv.pllReady_of_active (hs : SeqInv s) (ha : active s = true) : PllReady s where
  free := by
    have hc := hs.calibration
    cases hl : s.locus with
    | tx p | rx p => cases hf : s.calfsm <;> simp_all [calFits]
    | _ => simp [active, hl] at ha
  locked := hs.pll (by
    cases hl : s.locus with
    | tx p | rx p => rfl
    | _ => simp [active, hl] at ha)
  defined := by
    by_contra h
    obtain ⟨-, h | h⟩ := hs.undef (by simpa using h) <;> simp [active, h] at ha

theorem SeqInv.pllReady_of_idlePll (hs : SeqInv s) (hl : s.locus = .idlePll) (hb : busy s = false)
    (hu : s.cal.cfgUndef = false) : PllReady s where
  free := by simpa [busy] using hb
  locked := hs.pll (by rw [hl]; rfl)
  defined := hu

/-! ### States that meet the invariant -/

/-- An idle state meets the invariant where its calibration and PLL lock fit. -/
theorem Quiet.idle (hq : Quiet s) (hw : s.txW4r = false) (hi : idling s = true) (hc : calFits s.locus s.calfsm = true)
    (hp : s.locus = .idlePll → s.cal.pllLocked = true)
    (hu : s.cal.cfgUndef = true → s.calfsm = .none ∧ (s.locus = .idleRc ∨ s.locus = .idlePll)) : SeqInv s where
  deadlines := by
    cases hl : s.locus with
    | tx p | rx p | sleep | deepSleep => simp [idling, hl] at hi
    | _ => simp [deadlinesFit, hq.dl]
  calibration := hc
  pll h := hp (by
    cases hl : s.locus with
    | idlePll => rfl
    | _ => simp [hl, needsPll, idling] at h hi)
  undef := hu
  sniff h := absurd h (ne_false_of_eq_true hq.sniff)
  phr h := absurd h (ne_true_of_eq_false hq.phr)
  w4r h := absurd h (ne_true_of_eq_false hw)
  onTime := noneMissed_of_ahead (fun hl => by simp [idling, hl] at hi) (hq.dl ▸ ahead_none _)

/-- `IDLE_PLL` after an attempt. -/
theorem Quiet.idlePll (hq : Quiet s) (hp : PllReady s) (hw : s.txW4r = false) : SeqInv { s with locus := .idlePll } :=
  Quiet.idle ⟨hq.dl, hq.sniff, hq.phr⟩ hw rfl (by simp [hp.free, calFits]) (fun _ => hp.locked)
    fun _ => ⟨hp.free, .inr rfl⟩

/-- Sleep, whatever the PLL did (rule R128). -/
theorem Quiet.sleepEntry (hq : Quiet s) (hu : s.cal.cfgUndef = false) (hw : s.txW4r = false) (deep : Bool) :
    SeqInv (sleepEntry deep s) where
  deadlines := by cases deep <;> rfl
  calibration := rfl
  pll := by cases deep <;> exact nofun
  undef h := absurd h (ne_true_of_eq_false hu)
  sniff h := absurd h (ne_false_of_eq_true hq.sniff)
  phr h := absurd h (ne_true_of_eq_false hq.phr)
  w4r h := absurd h (ne_true_of_eq_false hw)
  onTime := noneMissed_iff.2 ⟨ahead_none _, by cases deep <;> simp [counterAhead]⟩

/-- A phase of a transmission with its one deadline armed. -/
theorem Quiet.transmitting (hq : Quiet s) (hp : PllReady s) (p : TxPhase) (d : Deadlines) (w4r : Bool)
    (hd : deadlinesFit (.tx p) d = true) (hm : Ahead d s.sysTime) :
    SeqInv { s with locus := .tx p, dl := d, txW4r := w4r } where
  deadlines := hd
  calibration := by simp [hp.free, calFits]
  pll _ := hp.locked
  undef h := absurd h (ne_true_of_eq_false hp.defined)
  sniff h := absurd h (ne_false_of_eq_true hq.sniff)
  phr h := absurd h (ne_true_of_eq_false hq.phr)
  w4r _ := ⟨p, rfl⟩
  onTime := noneMissed_of_ahead nofun hm

/-- A phase of a reception with its deadlines armed. -/
theorem PllReady.receiving (hp : PllReady s) (hw : s.txW4r = false) {p : RxPhase} (hl : s.locus = .rx p)
    (hd : deadlinesFit (.rx p) s.dl = true) (hn : s.sniffOn = false → p = .hunt ∧ s.dl.sniff.isSome = true)
    (hf : s.phrOk = true → p = .data) (hm : Ahead s.dl s.sysTime) : SeqInv s where
  deadlines := by rw [hl, hd]
  calibration := by rw [hp.free]; rfl
  pll _ := hp.locked
  undef h := absurd h (ne_true_of_eq_false hp.defined)
  sniff h := by rw [hl]; exact ⟨congrArg _ (hn h).1, (hn h).2⟩
  phr h := by rw [hl]; exact congrArg _ (hf h)
  w4r h := absurd h (ne_true_of_eq_false hw)
  onTime := noneMissed_of_ahead (by simp [hl]) hm

/-! ### Attempts begin and end -/

theorem seqInv_of_enterHunt (h : enterHunt s = .next t) (hq : Quiet s) (hp : PllReady s) (hw : s.txW4r = false) : SeqInv t := by
  obtain ⟨f, p, n, hf, hpre, hn, rfl⟩ := enterHunt_eq_next h
  refine PllReady.receiving ⟨hp.free, hp.locked, hp.defined⟩ hw rfl ?_ nofun nofun ?_
  · simp [deadlinesFit, hq.dl, Deadlines.none]
  · exact { hq.ahead with
      fwto := notPassed_deadlineAfter hf, pre := notPassed_deadlineAfter hpre, sfd := rfl, sniff := notPassed_sniffFirst hn }

theorem seqInv_of_attemptEffect (h : AttemptEffect s t) (hq : Quiet s) (hp : PllReady s) (hw : s.txW4r = false) : SeqInv t := by
  cases h with
  | idle => exact hq.idlePll hp hw
  | sleep deep => exact hq.sleepEntry hp.defined hw deep
  | overrun => exact (hq.idlePll hp hw).congr
  | hunt ho h => exact seqInv_of_enterHunt h hq hp hw

/-- Once `RMARKER` is on its way (rule R147). -/
theorem Quiet.enterShr (hq : Quiet s) (hp : PllReady s) : SeqInv (enterShr s) :=
  hq.transmitting hp .shr _ s.txW4r (by simp [deadlinesFit, hq.dl, Deadlines.none])
    { hq.ahead with rmark := notPassed_ahead (toNat_setWidth_lt _) }

/-- The sequencer's invariant holds after reset. -/
theorem seqInv_reset : SeqInv State.reset :=
  Quiet.idle ⟨rfl, rfl, rfl⟩ rfl rfl rfl nofun nofun

theorem seqInv_blockReset (s : State) : SeqInv (blockReset s) :=
  seqInv_reset.congr (ha := nofun)

theorem seqInv_wake (s : State) : SeqInv (wake s) :=
  seqInv_reset.congr (ha := nofun)

/-! ### The effects of a step -/

theorem SeqInv.commandEffect (hs : SeqInv s) (hb : busy s = false) (hu : s.cal.cfgUndef = false)
    (h : CommandEffect s t) : SeqInv t := by
  have hfree : s.calfsm = .none := by simpa [busy] using hb
  have idle_facts : s.locus = .idlePll → Quiet s ∧ PllReady s ∧ s.txW4r = false := fun hl => by
    obtain ⟨hq, hw⟩ := hs.quiet_of_idling (by simp [idling, hl])
    exact ⟨hq, hs.pllReady_of_idlePll hl hb hu, hw⟩
  cases h with
  | done | failed | configured => exact hs.congr
  | dbfree =>
    obtain ⟨v, x, y, hf⟩ := freeBuffer_eq s
    rw [hf]
    exact hs.congr
  | trxoff =>
    unfold forceOff
    split
    · next hk =>
      obtain ⟨hf, hp, hu⟩ := hs.pllReady_of_active hk
      exact (Quiet.idlePll (s := { s with dl := Deadlines.none, sniffOn := true, txW4r := false, phrOk := false })
        ⟨rfl, rfl, rfl⟩ ⟨hf, hp, hu⟩ rfl).congr
    · exact hs.congr
  | txShr w4r hl =>
    obtain ⟨hq, hp, -⟩ := idle_facts hl
    exact (Quiet.enterShr (s := { s with txW4r := w4r }) ⟨hq.dl, hq.sniff, hq.phr⟩ ⟨hp.free, hp.locked, hp.defined⟩).congr
  | txCca w4r d hl hd =>
    obtain ⟨hq, hp, -⟩ := idle_facts hl
    exact (hq.transmitting hp .cca { s.dl with cca := some (s.sysTime + d) } w4r (by simp [deadlinesFit, hq.dl, Deadlines.none])
      { hq.ahead with cca := notPassed_ahead hd }).congr
  | txArmed w4r T hl hT =>
    obtain ⟨hq, hp, -⟩ := idle_facts hl
    exact (hq.transmitting hp .wait { s.dl with start := some T } w4r (by simp [deadlinesFit, hq.dl, Deadlines.none])
      { hq.ahead with start := notPassed_of_not_late hT }).congr
  | rxOn c es hl h =>
    obtain ⟨hq, hp, hw⟩ := idle_facts hl
    rw [setEvents_eq] at h
    exact (seqInv_of_attemptEffect h ⟨hq.dl, hq.sniff, hq.phr⟩ ⟨hp.free, hp.locked, hp.defined⟩ hw).congr
  | rxArmed T hl ho hT =>
    obtain ⟨hq, hp, hw⟩ := idle_facts hl
    exact PllReady.receiving (p := .wait) ⟨hp.free, hp.locked, hp.defined⟩ hw rfl
      (by simp [deadlinesFit, hq.dl, Deadlines.none]) (fun h => absurd h (ne_false_of_eq_true hq.sniff))
      (fun h => absurd h (ne_true_of_eq_false hq.phr)) { hq.ahead with start := notPassed_of_not_late hT }
  | unlocked l hi hl =>
    obtain ⟨hq, hw⟩ := hs.quiet_of_idling hi
    refine Quiet.idle ⟨hq.dl, hq.sniff, hq.phr⟩ hw (by rcases hl with rfl | rfl <;> rfl) ?_ ?_ ?_
    · simp [hfree, calFits]
    · rcases hl with rfl | rfl <;> exact nofun
    · exact fun h => absurd h (ne_true_of_eq_false hu)
  | locking hi =>
    obtain ⟨hq, hw⟩ := hs.quiet_of_idling hi
    exact Quiet.idle ⟨hq.dl, hq.sniff, hq.phr⟩ hw rfl rfl nofun
      fun h => absurd h (ne_true_of_eq_false hu)
  | calrx pgf adc hl =>
    obtain ⟨hq, hw⟩ := hs.quiet_of_idling (by rcases hl with hl | hl <;> simp [idling, hl])
    refine Quiet.idle ⟨hq.dl, hq.sniff, hq.phr⟩ hw ?_ ?_ ?_ ?_
    · rcases hl with hl | hl <;> simp [startCalrx, idling, hl]
    · cases pgf <;> rcases hl with hl | hl <;> simp [startCalrx, calFits, hl, Config.maxRetriesForPgf]
    · exact fun h => hs.pll (by rw [show s.locus = .idlePll from h]; rfl)
    · exact fun h => absurd h (ne_true_of_eq_false hu)
  | sleep deep hi =>
    obtain ⟨hq, hw⟩ := hs.quiet_of_idling hi
    exact Quiet.sleepEntry (s := setResult .success s) ⟨hq.dl, hq.sniff, hq.phr⟩ hu hw deep

/-- A write of an unlocked register leaves the sequencer alone, but for a change of channel in `IDLE_PLL`. -/
theorem SeqInv.writeEffect {r : Reg} (hs : SeqInv s) (ha : asleep s = false) (hl : locked r s = false)
    (h : WriteEffect r s t) : SeqInv t := by
  cases h with
  | readOnly => exact hs
  | config | dbMode | status | command => exact hs.congr_awake ha
  | statusFree m =>
    obtain ⟨v, x, y, hf⟩ := freeBuffer_eq { s with sysStatus := s.sysStatus &&& m }
    rw [hf]
    exact hs.congr
  | channel saved hr =>
    subst hr
    obtain ⟨hk, hb⟩ : active s = false ∧ busy s = false := by simpa [locked, regLocked] using hl
    have hfree : s.calfsm = .none := by simpa [busy] using hb
    have hi : idling s = true := by
      cases hl : s.locus <;> simp [active, asleep, idling, hl] at hk ha ⊢
    obtain ⟨hq, hw⟩ := hs.quiet_of_idling hi
    obtain ⟨l, hl, h⟩ := channelChanged_eq (s := { s with saved := saved }) hi
    rw [h]
    refine Quiet.idle ⟨hq.dl, hq.sniff, hq.phr⟩ hw ?_ (by simp [hfree, calFits]) ?_ ?_
    · rcases hl with ⟨rfl, -⟩ | rfl <;> rfl
    · rcases hl with ⟨rfl, -⟩ | rfl <;> exact nofun
    · rcases hl with ⟨rfl, hi⟩ | rfl
      · intro h
        obtain ⟨-, hc | hc⟩ := hs.undef h <;> exact nomatch hi.symm.trans hc
      · exact fun _ => ⟨hfree, .inl rfl⟩

theorem SeqInv.portEffect (hs : SeqInv s) (ha : asleep s = false) (h : PortEffect s t) : SeqInv t := by
  cases h with
  | read | storeDropped | cmdErr => exact hs.congr
  | store r off n v hl =>
    exact SeqInv.writeEffect (s := { s with response := [] }) hs.congr ha hl (writeReg_effect r off n v _)
  | storeBadCrc r off n v hl =>
    have hw := SeqInv.writeEffect (s := { s with response := [], draws := s.draws + 1 }) hs.congr ha hl
      (writeReg_effect r off n v _)
    exact hw.congr
  | command hb hu h => exact SeqInv.commandEffect (s := commandStart s) hs.congr hb hu h
  | softreset => exact seqInv_blockReset _

/-- The deadlines without the one of a phase of a transmission (rules R146 to R152). -/
def Deadlines.disarm (d : Deadlines) (p : TxPhase) : Deadlines :=
  match p with
  | .wait => { d with start := .none }
  | .cca => { d with cca := .none }
  | .shr => { d with rmark := .none }
  | .data => { d with txend := .none }

/-- A transmission is quiet but for the deadline of its phase. -/
theorem SeqInv.transmission (hs : SeqInv s) {p : TxPhase} (hl : s.locus = .tx p) :
    Quiet { s with dl := s.dl.disarm p } ∧ PllReady s := by
  refine ⟨⟨?_, hs.sniff_on (by simp [hl]), hs.phr_off (by simp [hl])⟩, hs.pllReady_of_active (by simp [active, hl])⟩
  have hd := hs.deadlines
  rw [hl] at hd
  cases p <;> simp only [deadlinesFit, Bool.and_eq_true, beq_iff_eq] at hd <;> exact hd.2

/-- Stopping the receiver disarms all that was armed (rule R174). -/
theorem SeqInv.rxStop_quiet (hs : SeqInv s) {p : RxPhase} (hl : s.locus = .rx p) (hp : p ≠ .wait) : Quiet (rxStop s) where
  dl := by
    have hd := hs.deadlines
    cases p with
    | wait => exact absurd rfl hp
    | hunt | sfdWait | data => simp_all [deadlinesFit, Deadlines.none]
  sniff := rfl
  phr := rfl

theorem SeqInv.reception (hs : SeqInv s) {p : RxPhase} (hl : s.locus = .rx p) : PllReady s ∧ s.txW4r = false :=
  ⟨hs.pllReady_of_active (by simp [active, hl]), hs.not_w4r (by simp [hl])⟩

theorem SeqInv.seqEffect (hs : SeqInv s) (h : SeqEffect s t) : SeqInv t := by
  cases h with
  | startTx hl =>
    obtain ⟨⟨hd, hn, hr⟩, hf, hp, hu⟩ := hs.transmission hl
    exact Quiet.enterShr (s := { s with dl.start := none }) ⟨hd, hn, hr⟩ ⟨hf, hp, hu⟩
  | ccaClear hl =>
    obtain ⟨⟨hd, hn, hr⟩, hf, hp, hu⟩ := hs.transmission hl
    exact Quiet.enterShr (s := { s with dl.cca := none }) ⟨hd, hn, hr⟩ ⟨hf, hp, hu⟩
  | rmarker hl =>
    obtain ⟨⟨hd, hn, hr⟩, hf, hp, hu⟩ := hs.transmission hl
    have hq : Quiet { s with dl.rmark := none } := ⟨hd, hn, hr⟩
    exact (hq.transmitting ⟨hf, hp, hu⟩ .data
      { s.dl with
        rmark := none, txend := some (s.sysTime + (Config.dataDtu (cfgOf s) (txflenOf s.saved.txFctrl)).setWidth 40) }
      s.txW4r (by simp_all [deadlinesFit, Deadlines.none, Deadlines.disarm])
      { hq.ahead with txend := notPassed_ahead (toNat_setWidth_lt _) }).congr
  | txEnd hl h =>
    obtain ⟨⟨hd, hn, hr⟩, hf, hp, hu⟩ := hs.transmission hl
    exact seqInv_of_attemptEffect h ⟨hd, hn, hr⟩ ⟨hf, hp, hu⟩ rfl
  | startRx hl h =>
    obtain ⟨⟨hf, hp, hu⟩, hw⟩ := hs.reception hl
    have hd : { s.dl with start := none } = Deadlines.none := by
      have hd := hs.deadlines
      simp only [hl, deadlinesFit, Bool.and_eq_true, beq_iff_eq] at hd
      exact hd.2
    exact seqInv_of_enterHunt (s := { s with dl.start := none }) h
      ⟨hd, hs.sniff_on (by simp [hl]), hs.phr_off (by simp [hl])⟩ ⟨hf, hp, hu⟩ hw
  | rxTimeout es p hl hp =>
    obtain ⟨⟨hf, hpll, hu⟩, hw⟩ := hs.reception hl
    rw [setEvents_eq]
    exact ((hs.rxStop_quiet hl hp).idlePll ⟨hf, hpll, hu⟩ hw).congr
  | sniffSwitch on d hl hd =>
    obtain ⟨⟨hf, hp, hu⟩, hw⟩ := hs.reception hl
    obtain ⟨hm, -⟩ := noneMissed_iff.1 hs.onTime
    have hfit := hs.deadlines
    rw [hl] at hfit
    exact PllReady.receiving (p := .hunt) ⟨hf, hp, hu⟩ hw hl hfit (fun _ => ⟨rfl, rfl⟩)
      (fun h => absurd h (ne_true_of_eq_false (hs.phr_off (by simp [hl])))) { hm with sniff := notPassed_ahead hd }
  | counterWake => exact seqInv_wake s

theorem SeqInv.airEffect (hs : SeqInv s) (h : AirEffect s t) : SeqInv t := by
  cases h with
  | ccaBusy hl =>
    obtain ⟨⟨hd, hn, hr⟩, hf, hp, hu⟩ := hs.transmission hl
    exact (Quiet.idlePll (s := { s with dl.cca := none, txW4r := false }) ⟨hd, hn, hr⟩ ⟨hf, hp, hu⟩ rfl).congr
  | preamble hl h =>
    obtain ⟨⟨hf, hp, hu⟩, hw⟩ := hs.reception hl
    obtain ⟨hm, -⟩ := noneMissed_iff.1 hs.onTime
    have hfit := hs.deadlines
    unfold preambleFound at h
    split at h <;> cases h
    next d hd =>
      exact PllReady.receiving (p := .sfdWait) ⟨hf, hp, hu⟩ hw rfl (by simp_all [deadlinesFit, Deadlines.none]) nofun
        (fun h => absurd h (ne_true_of_eq_false (hs.phr_off (by simp [hl]))))
        { hm with pre := rfl, sniff := rfl, sfd := notPassed_deadlineAfter hd }
  | sfd hl =>
    obtain ⟨⟨hf, hp, hu⟩, hw⟩ := hs.reception hl
    obtain ⟨hm, -⟩ := noneMissed_iff.1 hs.onTime
    have hfit := hs.deadlines
    exact PllReady.receiving (p := .data) ⟨hf, hp, hu⟩ hw rfl (by simp_all [deadlinesFit, Deadlines.none, sfdFound])
      (fun h => absurd h (ne_false_of_eq_true (hs.sniff_on (by simp [hl])))) (fun _ => rfl) { hm with sfd := rfl }
  | phr hl =>
    exact SeqInv.congr (s := { s with phrOk := true }) { hs with phr := fun _ => hl }
  | good len rng m hl h =>
    obtain ⟨⟨hf, hp, hu⟩, hw⟩ := hs.reception hl
    obtain ⟨hd, hn, hr⟩ := hs.rxStop_quiet hl (by decide)
    obtain ⟨v, b₀, b₁, x, y, c, r, hfr⟩ := frameStored_eq len rng m (setEvent .rxfcg (setEvent .rxfr s))
    rw [hfr] at h
    exact seqInv_of_attemptEffect h ⟨hd, hn, hr⟩ ⟨hf, hp, hu⟩ hw
  | errorEnd es p hl hp =>
    obtain ⟨⟨hf, hpll, hu⟩, hw⟩ := hs.reception hl
    rw [setEvents_eq]
    exact ((hs.rxStop_quiet hl hp).idlePll ⟨hf, hpll, hu⟩ hw).congr
  | errorHunt es p hl hp h =>
    obtain ⟨⟨hf, hpll, hu⟩, hw⟩ := hs.reception hl
    obtain ⟨hd, hn, hr⟩ := hs.rxStop_quiet hl hp
    rw [setEvents_eq] at h
    exact seqInv_of_enterHunt h ⟨hd, hn, hr⟩ ⟨hf, hpll, hu⟩ hw

/-! ### Calibration -/

/-- A calibration that goes on stays within its budgets, in the locus it began in (rule R48). -/
theorem CalNext.calFits {l : Locus} {c c' : CalFsm} (h : CalNext c c') (hc : calFits l c = true) : calFits l c' = true := by
  cases h <;> simp_all [Machine.calFits, Config.maxRetriesForPll]

theorem CalNext.ne_none {c c' : CalFsm} (h : CalNext c c') : c ≠ .none := by
  cases h <;> nofun

/-- A calibration runs in `IDLE_RC` or `IDLE_PLL`, and not with an undefined configuration. -/
theorem SeqInv.calibrating (hs : SeqInv s) (hc : s.calfsm ≠ .none) :
    (s.locus = .idleRc ∨ s.locus = .idlePll) ∧ s.cal.cfgUndef = false := by
  refine ⟨?_, ?_⟩
  · have hf := hs.calibration
    cases hk : s.calfsm <;> simp_all [Machine.calFits]
  · by_contra h
    exact hc (hs.undef (by simpa using h)).1

theorem Measured.eq_update (h : Measured s t) : ∃ i q, t = { s with rxCalResi := i, rxCalResq := q } := by
  cases h with
  | not => exact ⟨_, _, rfl⟩
  | resistors => exact ⟨_, _, rfl⟩

theorem SeqInv.calEffect (hs : SeqInv s) (h : CalEffect s t) : SeqInv t := by
  have hq : s.calfsm ≠ .none → Quiet s ∧ s.txW4r = false := fun hc =>
    hs.quiet_of_idling (by rcases (hs.calibrating hc).1 with hl | hl <;> simp [idling, hl])
  cases h with
  | locked cc hc =>
    have hne : s.calfsm ≠ .none := by simp [hc]
    obtain ⟨⟨hd, hn, hr⟩, hw⟩ := hq hne
    exact (Quiet.idlePll (s := { s with calfsm := .none, cal.pllLocked := true }) ⟨hd, hn, hr⟩
      ⟨rfl, rfl, (hs.calibrating hne).2⟩ hw).congr
  | onward c p hu hc =>
    obtain ⟨i, q, rfl⟩ := hu.eq_update
    obtain ⟨-, hdef⟩ := hs.calibrating hc.ne_none
    exact { hs with
      calibration := hc.calFits hs.calibration
      undef := fun h => absurd h (ne_true_of_eq_false hdef) }
  | ended code thr cal hu hc hp =>
    obtain ⟨i, q, rfl⟩ := hu.eq_update
    obtain ⟨hl, -⟩ := hs.calibrating hc
    exact { hs with
      calibration := rfl
      pll := fun h => by
        obtain hp | ⟨l, p, hk⟩ := hp
        · exact hp.trans (hs.pll h)
        · have hf := hs.calibration
          have h : needsPll s.locus = true := h
          simp_all [calFits, needsPll]
      undef := fun _ => ⟨rfl, hl⟩ }

/-! ### The clock -/

/-- With nothing due, no deadline has come: the armed ones are those of the phase (rule R265). -/
theorem SeqInv.none_due (hs : SeqInv s) (hd : due s = none) :
    s.dl.start ≠ some s.sysTime ∧ s.dl.cca ≠ some s.sysTime ∧ s.dl.rmark ≠ some s.sysTime ∧ s.dl.txend ≠ some s.sysTime ∧
    s.dl.fwto ≠ some s.sysTime ∧ s.dl.pre ≠ some s.sysTime ∧ s.dl.sfd ≠ some s.sysTime ∧ s.dl.sniff ≠ some s.sysTime := by
  have hf := hs.deadlines
  cases hl : s.locus with
  | tx p => cases p <;> simp_all [due, dueAt, deadlinesFit, Deadlines.none]
  | rx p =>
    cases p with
    | wait | sfdWait | data => simp_all [due, timeoutDue, dueAt, deadlinesFit, Deadlines.none]
    | hunt =>
      simp only [due, hl, timeoutDue] at hd
      split_ifs at hd
      simp_all [dueAt, deadlinesFit, Deadlines.none]
  | _ => simp_all [deadlinesFit, Deadlines.none]

/-- With nothing due, the sleep counter has not come to its target (rule R130). -/
theorem counterAhead_succ (hc : counterAhead s = true) (hd : due s = none) :
    counterAhead { s with aonElapsed := s.aonElapsed + 1 } = true := by
  by_cases hl : s.locus = .sleep
  · simp only [due, hl, counterDue] at hd
    simp only [counterAhead, hl] at hc ⊢
    cases hw : wakeCntOf s.aonCfg
    · simp
    · by_cases h0 : s.sleepCnt = 0#16
      · simp [h0]
      · have hle : s.aonElapsed ≤ s.sleepCnt.toNat * Config.lpUnit := by simpa [hw, h0] using hc
        have hne : s.aonElapsed ≠ s.sleepCnt.toNat * Config.lpUnit := fun he => by simp [hw, h0, he] at hd
        simpa [hw, h0] using Nat.lt_of_le_of_ne hle hne
  · simp [counterAhead, hl]

theorem SeqInv.tick (hs : SeqInv s) (hd : due s = none) : SeqInv (tick s) := by
  obtain ⟨hm, hc⟩ := noneMissed_iff.1 hs.onTime
  unfold Machine.tick
  split
  · exact { hs with onTime := noneMissed_iff.2 ⟨hm, counterAhead_succ hc hd⟩ }
  · next ha =>
    have hl := locus_ne_sleep (s := s) (by simpa using ha)
    obtain ⟨h1, h2, h3, h4, h5, h6, h7, h8⟩ := hs.none_due hd
    exact { hs with
      onTime := noneMissed_of_ahead hl
        ⟨notPassed_succ hm.start h1, notPassed_succ hm.cca h2, notPassed_succ hm.rmark h3, notPassed_succ hm.txend h4,
          notPassed_succ hm.fwto h5, notPassed_succ hm.pre h6, notPassed_succ hm.sfd h7, notPassed_succ hm.sniff h8⟩ }

/-- Every source of steps keeps the sequencer's invariant. -/
theorem seqInv_stepKeeps : StepKeeps SeqInv where
  outside _ _ _ hs := hs.congr
  seq hs h := hs.seqEffect h
  port hs ha h := hs.portEffect ha h
  air hs h := hs.airEffect h
  cal hs h := hs.calEffect h
  wake _ := seqInv_wake _
  reset _ := seqInv_blockReset _
  tick hs hd := hs.tick hd
  sensor _ hs _ := hs.congr

end Sys2Proof.Machine
end

section
/-! SUPPORT. Register reads: a register's content as octets and as a number (rules R62, R63), and what the four reads do (rules R101 to
R103, R107). -/

namespace Sys2Proof.Machine

/-! ### Octets and numbers -/

/-- An octet is a digit of the register's number to the base 256. -/
theorem toNat_octet (v : Wide) (k : Nat) : (octet v k).toNat = v.toNat / (2 ^ 8) ^ k % 2 ^ 8 := by
  rw [octet, BitVec.extractLsb'_toNat, Nat.shiftRight_eq_div_pow, Nat.pow_mul]

/-- `n` digits from digit `off` on sum up to the number shifted down and cut. -/
theorem sum_octets (v : Wide) (off n : Nat) :
    ∑ j ∈ Finset.range n, (octet v (off + j)).toNat * 2 ^ (8 * j) = v.toNat / 2 ^ (8 * off) % 2 ^ (8 * n) := by
  simp only [Nat.pow_mul]
  induction n with
  | zero => simp [Nat.mod_one]
  | succ n ih =>
    rw [Finset.sum_range_succ, ih, Nat.mod_pow_succ, toNat_octet, Nat.pow_add, ← Nat.div_div_eq_div_mul, Nat.mul_comm]

theorem memRead_eq (s : State) (r : Reg) (off n : Nat) :
    memRead s r off n = (List.range n).map fun k => (regView s r >>> (8 * off)).extractLsb' (8 * k) 8 := by
  refine List.map_congr_left fun k _ => ?_
  refine BitVec.eq_of_getLsbD_eq fun i _ => ?_
  simp only [octet, BitVec.getLsbD_extractLsb', BitVec.getLsbD_ushiftRight]
  congr 2
  omega

/-- The number of the octets read is the register's number shifted down and cut, as far as a container reaches. -/
theorem toNat_leValue_memRead (s : State) (r : Reg) (off : Nat) {n : Nat} (hn : n ≤ 20) :
    (leValue (memRead s r off n)).toNat = (regView s r).toNat / 2 ^ (8 * off) % 2 ^ (8 * n) := by
  refine Nat.eq_of_testBit_eq fun i => ?_
  rw [BitVec.testBit_toNat, memRead_eq, getLsbD_leValue_octets, BitVec.getLsbD_ushiftRight, Nat.testBit_mod_two_pow,
    Nat.testBit_div_two_pow, BitVec.testBit_toNat]
  by_cases h : i < 8 * n
  · have : i < 160 := by omega
    simp [*, Nat.add_comm]
  · simp [h]

/-- A widened value is below the bound of its own width. -/
theorem toNat_setWidth_lt_two_pow {w : Nat} (v : Nat) (x : BitVec w) : (x.setWidth v).toNat < 2 ^ w := by
  rw [BitVec.toNat_setWidth]
  exact Nat.lt_of_le_of_lt (Nat.mod_le _ _) x.isLt

/-- A register's content fits its octets (rule R21). -/
theorem regView_lt (s : State) (r : Reg) : (regView s r).toNat < 2 ^ (8 * regOctets r) := by
  cases r with
  | cmd => exact Nat.two_pow_pos _
  | ipDiag | sts1Diag | sts2Diag => exact BitVec.isLt _
  | _ => exact toNat_setWidth_lt_two_pow 160 _

/-! ### Reads -/

theorem portRead_ready {id off n : Byte} {width : Nat} {s : State} {r : Reg} (hp : PortReady s) (hr : regOfId id = some r)
    (hn : n.toNat = width) (hb : off.toNat + width ≤ regOctets r) :
    portRead id off n width s = .next (readReg r off.toNat width { s with response := [] }) := by
  rw [portRead, atPort_ready hp.1 hp.2]
  simp only [hn, ne_eq, not_true_eq_false, if_false, access_in_bounds hr hb]

/-- Every register read in bounds completes as a read of its octets (rules R101 to R103, R107). -/
theorem exec_of_reads {i : Instr} {s : State} {r : Reg} {off n : Nat} (hp : PortReady s) (hi : Reads i r off n)
    (hb : off + n ≤ regOctets r) : exec i s = .next (readReg r off n { s with response := [] }) := by
  obtain ⟨hc, hi⟩ := hi
  cases i with
  | rd8 | rd16 | rd32 =>
    obtain ⟨hr, rfl, rfl⟩ := hi
    simp only [Instr.countOk, beq_iff_eq] at hc
    exact portRead_ready hp hr (by rw [hc]; rfl) hb
  | rdbuf id o c =>
    obtain ⟨hr, rfl, rfl⟩ := hi
    have hc : bufCountOk c = true := hc
    simp only [exec, execRdbuf, hc, if_true]
    exact portRead_ready hp hr rfl hb
  | _ => exact hi.elim

/-- A read of a register that is not in a stale set returns its octets (rule R62). -/
theorem readReg_fresh {s : State} {r : Reg} (hf : regBuffered r = true → staleAt s s.db.hostBuf = false) (off n : Nat) :
    readReg r off n { s with response := [] } = { s with response := memRead s r off n } := by
  have h : (regBuffered r && staleAt { s with response := [] } s.db.hostBuf) = false := by
    cases hb : regBuffered r
    · rfl
    · exact hf hb
  simp only [readReg, h, Bool.false_eq_true, if_false]
  rfl

/-- A read of a register of a stale set returns free octets, the next ones (rule R41). -/
theorem readReg_stale {s : State} {r : Reg} (hb : regBuffered r = true) (hf : staleAt s s.db.hostBuf = true) (off n : Nat) :
    readReg r off n { s with response := [] } = { s with response := freeOctets s.draws n, draws := s.draws + n } := by
  have h : (regBuffered r && staleAt { s with response := [] } s.db.hostBuf) = true := by
    rw [hb]
    exact hf
  simp only [readReg, h, if_true]

end Sys2Proof.Machine
end

section
/-! SUPPORT. A calibration is bounded: the steps still possible fall with every step of agent `Cal` (rules R48, R221). -/

namespace Sys2Proof.Machine

theorem calFits_pll {l : Locus} {loop poll : Nat} :
    calFits l (.pll loop poll) = true ↔ (l = .idleRc ∧ loop < 2) ∧ poll < 50 := by
  simp only [calFits, Bool.and_eq_true, decide_eq_true_eq, beq_iff_eq]
  rfl

theorem calFits_pgf {l : Locus} {attempt : Nat} {adc : Bool} :
    calFits l (.pgf attempt adc) = true ↔ (l = .idleRc ∨ l = .idlePll) ∧ attempt < 3 := by
  simp only [calFits, Bool.and_eq_true, Bool.or_eq_true, decide_eq_true_eq, beq_iff_eq]
  rfl

theorem calLeft_pll (loop poll : Nat) : calLeft (.pll loop poll) = 100 - (loop * 50 + poll) := rfl

theorem calLeft_pgf (attempt : Nat) (adc : Bool) : calLeft (.pgf attempt adc) = 5 - attempt := rfl

theorem calLeft_res (adc : Bool) : calLeft (.res adc) = 2 := rfl

/-- A calibration that runs steps (rule R221). -/
theorem calStep_completes (d : CalDraw) {s : State} (hc : s.calfsm ≠ .none) : ∃ t, calStep d s = .next t := by
  unfold calStep
  split
  · next h => exact absurd h hc
  all_goals exact ⟨_, rfl⟩

/-- Within its budgets a calibration has a step left exactly while it runs. -/
theorem calLeft_eq_zero_iff {l : Locus} {c : CalFsm} (h : calFits l c = true) : calLeft c = 0 ↔ c = .none := by
  cases c with
  | pll loop poll =>
    obtain ⟨⟨-, hl⟩, hp⟩ := calFits_pll.1 h
    simp only [calLeft_pll, reduceCtorEq, iff_false]
    omega
  | pgf attempt adc =>
    obtain ⟨-, hn⟩ := calFits_pgf.1 h
    simp only [calLeft_pgf, reduceCtorEq, iff_false]
    omega
  | none | res | adc => simp [calLeft]

/-- A calibration that goes on has fewer steps left. -/
theorem CalNext.calLeft_lt {l : Locus} {c c' : CalFsm} (h : CalNext c c') (hc : Machine.calFits l c = true) :
    calLeft c' < calLeft c := by
  cases h with
  | poll | cycle =>
    obtain ⟨⟨-, hl⟩, hp⟩ := calFits_pll.1 hc
    simp only [calLeft_pll]
    omega
  | attempt | resistors =>
    obtain ⟨-, hn⟩ := calFits_pgf.1 hc
    simp only [calLeft_pgf, calLeft_res]
    omega
  | adc => decide

/-- Every step of agent `Cal` leaves fewer steps. -/
theorem CalEffect.calLeft_lt {s t : State} (h : CalEffect s t) (hc : Machine.calFits s.locus s.calfsm = true) :
    calLeft t.calfsm < calLeft s.calfsm := by
  have ends : s.calfsm ≠ .none → 0 < calLeft s.calfsm := fun hne =>
    Nat.pos_of_ne_zero fun h0 => hne ((calLeft_eq_zero_iff hc).1 h0)
  cases h with
  | locked cc hk => exact ends (by simp [hk])
  | onward c p hu hn => exact hn.calLeft_lt hc
  | ended code thr cal hu hne => exact ends hne

/-- At most 100 steps for the PLL, 5 for the receiver. -/
theorem calLeft_le (c : CalFsm) : calLeft c ≤ 100 ∧ ((∀ l p, c ≠ .pll l p) → calLeft c ≤ 5) := by
  cases c with
  | pll l p => exact ⟨Nat.sub_le _ _, fun h => absurd rfl (h l p)⟩
  | pgf n a =>
    have h : calLeft (.pgf n a) ≤ 5 := Nat.sub_le _ _
    exact ⟨h.trans (by decide), fun _ => h⟩
  | none | res | adc => exact ⟨Nat.le_of_ble_eq_true rfl, fun _ => Nat.le_of_ble_eq_true rfl⟩

end Sys2Proof.Machine
end

section
/-! SUPPORT. Values after reset (rule R281), and the interrupt line bit by bit (rule R256). -/

namespace Sys2Proof.Machine

/-- The reset trim is the OTP value, or the default, which fits its octet (rule R42). -/
theorem toNat_resetTrim : resetTrim.toNat = if Config.otpXtrim = 0 then Config.xtalTrimDefault else Config.otpXtrim.toNat := by
  have hd : Config.xtalTrimDefault < 2 ^ 8 := Nat.lt_of_le_of_lt Config.xtalTrim_ordered.2 xtalTrimMax_lt
  by_cases h : Config.otpXtrim = 0
  · simp only [resetTrim, h, ne_eq, not_true_eq_false, if_false, if_true, BitVec.toNat_ofNat, Nat.mod_eq_of_lt hd]
  · simp only [resetTrim, h, ne_eq, not_false_eq_true, if_true, if_false]

/-- The four octets of `XTAL_REF` after reset, as one number (rules R42, R281). -/
theorem xtalRef_octets (t u : BitVec 8) :
    (0#8 ++ t ++ 25#8 ++ u).setWidth 160 = ((t.setWidth 160) <<< 16) ||| 0x1900 ||| u.setWidth 160 := by
  rw [show (0x1900 : Wide) = (25#8).setWidth 160 <<< 8 from rfl]
  generalize 25#8 = v
  refine BitVec.eq_of_getLsbD_eq fun i hi => ?_
  simp only [BitVec.getLsbD_setWidth, BitVec.getLsbD_append, BitVec.getLsbD_or, BitVec.getLsbD_shiftLeft]
  rcases Nat.lt_or_ge i 8 with h | h
  · simp [hi, h, show i < 16 by omega]
  rcases Nat.lt_or_ge i 16 with h' | h'
  · simp [hi, h', show ¬ i < 8 by omega, show i - 8 < 8 by omega, BitVec.getLsbD_of_ge u i (by omega), show i - 8 < 160 by omega]
  rcases Nat.lt_or_ge i 24 with h'' | h''
  · simp [hi, show ¬ i < 8 by omega, show ¬ i - 8 < 8 by omega, show i - 16 < 8 by omega,
      BitVec.getLsbD_of_ge u i (by omega), BitVec.getLsbD_of_ge v (i - 8) (by omega), show ¬ i < 16 by omega,
      show i - 8 < 160 by omega, show i - 16 < 160 by omega, show i - 8 - 8 = i - 16 by omega]
  · simp [hi, show ¬ i < 8 by omega, show ¬ i - 8 < 8 by omega, show ¬ i - 8 - 8 < 8 by omega,
      BitVec.getLsbD_of_ge u i (by omega), BitVec.getLsbD_of_ge v (i - 8) (by omega), BitVec.getLsbD_of_ge t (i - 16) (by omega)]

theorem regView_reset_xtalRef :
    regView State.reset .xtalRef = ((Config.tempUnset.setWidth 160) <<< 16) ||| 0x1900 ||| resetTrim.setWidth 160 :=
  xtalRef_octets _ _

/-- A word that is not zero has a bit set. -/
theorem bne_zero_iff {w : Nat} (x : BitVec w) : (x != 0) = true ↔ ∃ k, k < w ∧ x.getLsbD k = true := by
  rw [bne_iff_ne, ne_eq, ← not_iff_not, not_not]
  constructor
  · rintro rfl
    simp
  · intro h
    refine BitVec.eq_of_getLsbD_eq fun k hk => ?_
    simpa using fun hb => h ⟨k, hk, hb⟩

theorem asleep_eq_false_iff (s : State) : asleep s = false ↔ s.locus ≠ .sleep ∧ s.locus ≠ .deepSleep := by
  cases hl : s.locus <;> simp [asleep, hl]

end Sys2Proof.Machine
end

section
/-! The obligations of spec/10_state.md: what every step keeps, the registers and their octets, reset, and bounded calibration. -/

namespace Sys2Proof.Proofs.BlockState

open Sys2Proof.Machine

/-- Settles O56: every source of steps keeps the sequencer's invariant. -/
theorem stepKeepsSeqInv : Obligations.step_keeps_seq_inv :=
  fun _ _ hs h => seqInv_stepKeeps.step hs h

/-- Settles O57: every source of steps keeps the double buffer's invariant, whatever the sequencer does. -/
theorem stepKeepsDbInv : Obligations.step_keeps_db_inv :=
  fun _ _ _ hs h => dbInv_stepKeeps.step hs h

/-- Settles O58: every source of steps keeps the registers' invariant. -/
theorem stepKeepsRegInv : Obligations.step_keeps_reg_inv :=
  fun _ _ hs h => regInv_stepKeeps.step hs h

/-- Settles O10: the octets are the digits of the register's number, and a five-octet register's number is below `2^40`. -/
theorem octetsLittleEndian : Obligations.octets_little_endian := by
  refine ⟨fun s r off n hn => ?_, fun s r h5 => ?_⟩
  · rw [sum_octets]
    exact ⟨toNat_leValue_memRead s r off hn, toNat_leValue_memRead s r off hn⟩
  · have hlt := regView_lt s r
    rw [h5] at hlt
    rw [toNat_leValue_memRead s r 0 (by decide), toNat_leValue_memRead s r 1 (by decide)]
    omega

/-- Settles O11: an enabled read in bounds is a read of a fresh register. -/
theorem readsReturnOctets : Obligations.reads_return_octets := by
  intro i s r off n hp hi hb hf
  rw [exec_of_reads hp hi hb, readReg_fresh hf]
  rfl

/-- Settles O12: an enabled read in bounds is a read of a stale register. -/
theorem staleReadsAreFree : Obligations.stale_reads_are_free := by
  intro i s r off n hp hi hb hbuf hf
  rw [exec_of_reads hp hi hb, readReg_stale hbuf hf]
  rfl

/-- Settles O30: `SOFTRESET` passes every test awake, and its body is the reset of the block. -/
theorem softresetCompletes : Obligations.softreset_completes := by
  intro s hp hc
  have ha : (!asleep (commandStart s)) = true := congrArg (!·) hp.1
  show execSoftreset s = .next (blockReset (commandStart s))
  rw [execSoftreset, command_runs hp hc (.inr rfl) rfl (.inr rfl) ha rfl]

/-- Settles O52: a running calibration steps, and each step leaves fewer. -/
theorem calibrationIsBounded : Obligations.calibration_is_bounded := by
  refine ⟨fun d s hc => by simp [calStep, hc], fun d s hf hc => ?_, fun l c hf => calLeft_eq_zero_iff hf, rfl, fun _ => rfl, rfl⟩
  obtain ⟨t, ht⟩ := calStep_completes d hc
  obtain ⟨h100, h5⟩ := calLeft_le s.calfsm
  exact ⟨t, ht, (calStep_effect ht).calLeft_lt hf, h100, h5⟩

/-- Settles O8: the table is finite, and an id is in it exactly below its length. -/
theorem registerTable : Obligations.register_table := by
  refine ⟨fun _ => rfl, rfl, fun id => ?_, by decide, by decide, by decide, by decide, by decide, by decide⟩
  have hlen : regTable.length = 0x3D := rfl
  by_cases h : id.toNat < 0x3D
  · simp [regOfId, hlen, h]
  · simp [regOfId, hlen, h]

/-- Settles O9: register by register, and field by field. -/
theorem resetValues : Obligations.reset_values := by
  refine ⟨fun r => ?_, toNat_resetTrim, rfl, rfl, rfl, rfl, rfl, rfl, rfl, rfl, rfl, rfl, rfl, rfl, rfl, rfl, rfl⟩
  cases r with
  | xtalRef => exact regView_reset_xtalRef
  | _ => rfl

/-- Settles O54: the clock, the sensor, and the interrupt line as a bit set in both registers. -/
theorem clockSensorIrq : Obligations.clock_sensor_irq := by
  refine ⟨fun s => ⟨fun h => ?_, fun h => ?_⟩, fun s t => ⟨fun h => ?_, fun h => ?_⟩, fun s => ?_⟩
  · simp only [perform, tick, h, Bool.false_eq_true, if_false]
  · simp only [perform, tick, h, if_true]
  · simp only [perform, tempStep, h, Bool.false_eq_true, if_false]
  · simp only [perform, tempStep, h, if_true]
  · simp only [irq, Bool.and_eq_true, Bool.not_eq_true', asleep_eq_false_iff, bne_zero_iff, BitVec.getLsbD_and, and_assoc]

/-- Settles O55: reset meets each invariant. -/
theorem resetMeetsInvariants : Obligations.reset_meets_invariants :=
  ⟨seqInv_reset, dbInv_empty, regInv_reset⟩

end Sys2Proof.Proofs.BlockState
end

section
/-! SUPPORT. What a store does at an enabled port, said once: the lock, the special registers, the transport CRC, then a register write
(rules R68, R76, R106, R112 to R119). -/

namespace Sys2Proof.Machine

/-- A write in bounds: refused under the lock, else a register write under the transport CRC (rules R76, R112, R113). -/
theorem portWrite_ready {id off n : Byte} {width : Nat} {v : Wide} {s : State} {r : Reg} (hp : PortReady s)
    (hr : regOfId id = some r) (hn : n.toNat = width) (hb : off.toNat + width ≤ regOctets r) :
    portWrite id off n width v s =
      if locked r s then .refused .configLocked else underCrc { s with response := [] } (writeReg r off.toNat width v) := by
  rw [portWrite, atPort_ready hp.1 hp.2]
  simp only [hn, ne_eq, not_true_eq_false, if_false, access_in_bounds hr hb]
  rfl

/-- The outcome of a write under the transport CRC is that of any write that does the same with and without the draw (rule R112). -/
theorem underCrc_congr {s : State} {f g : State → State} (h : f s = g s)
    (hd : f { s with draws := s.draws + 1 } = g { s with draws := s.draws + 1 }) : underCrc s f = underCrc s g := by
  simp only [underCrc, h, hd]

/-- A register's content depends neither on the response nor on the number of draws. -/
theorem regView_port (s : State) (r : Reg) (l : List Byte) (d : Nat) :
    regView { s with response := l, draws := d } r = regView s r := rfl

/-- What a modify computes depends neither on the response nor on the number of draws. -/
theorem modified_port (s : State) (r : Reg) (off n : Nat) (a o : Wide) (l : List Byte) (d : Nat) :
    modified { s with response := l, draws := d } r off n a o = modifiedValue s r off n a o := by
  simp only [modified, modifiedValue, memValue, regView_port]

/-- A modify in bounds: refused under the lock and of a special register, else a register write of the value computed from the old
octets (rules R68, R106, R117). -/
theorem portModify_ready {id off n : Byte} {width : Nat} {a o : Wide} {s : State} {r : Reg} (hp : PortReady s)
    (hr : regOfId id = some r) (hn : n.toNat = width) (hb : off.toNat + width ≤ regOctets r) :
    portModify id off n width a o s =
      if locked r s then .refused .configLocked
      else if r = .sysStatus ∨ r = .cmd then .refused .modOnSpecial
      else underCrc { s with response := [] } (writeReg r off.toNat width (modifiedValue s r off.toNat width a o)) := by
  rw [portModify, atPort_ready hp.1 hp.2]
  simp only [hn, ne_eq, not_true_eq_false, if_false, access_in_bounds hr hb]
  have hv (d : Nat) := modified_port s r off.toNat width a o [] d
  rw [underCrc_congr (f := fun u => writeReg r off.toNat width (modified u r off.toNat width a o) u)
    (g := writeReg r off.toNat width (modifiedValue s r off.toNat width a o))
    (congrArg (writeReg r off.toNat width · _) (hv _)) (congrArg (writeReg r off.toNat width · _) (hv _))]
  rfl

/-- Every store in bounds: the lock, a modify of a special register, else a register write of the value stored (rules R76, R106,
R112). -/
theorem exec_of_stores {i : Instr} {s : State} {r : Reg} {off n : Nat} {v : Wide} (hp : PortReady s) (hi : Stores i s r off n v)
    (hb : off + n ≤ regOctets r) :
    exec i s =
      if locked r s then .refused .configLocked
      else if isModify i = true ∧ (r = .sysStatus ∨ r = .cmd) then .refused .modOnSpecial
      else underCrc { s with response := [] } (writeReg r off n v) := by
  obtain ⟨hc, hi⟩ := hi
  cases i with
  | wr8 | wr32 =>
    obtain ⟨hr, rfl, rfl, rfl⟩ := hi
    simp only [Instr.countOk, beq_iff_eq] at hc
    simp only [isModify, Bool.false_eq_true, false_and, if_false]
    exact portWrite_ready hp hr (by rw [hc]; rfl) hb
  | wr16 id o c x =>
    obtain ⟨hr, rfl, rfl, rfl, hcmd⟩ := hi
    simp only [Instr.countOk, beq_iff_eq] at hc
    have hw : ¬(id = cmdId ∧ o = 0 ∧ c = 2) := fun ⟨hid, ho, _⟩ => hcmd ⟨hid, ho⟩
    simp only [isModify, Bool.false_eq_true, false_and, if_false, exec, execWr16, hw]
    exact portWrite_ready hp hr (by rw [hc]; rfl) hb
  | wrbuf id o c data =>
    obtain ⟨hr, rfl, rfl, rfl⟩ := hi
    have hc : (bufCountOk c && data.length == c.toNat) = true := hc
    simp only [isModify, Bool.false_eq_true, false_and, if_false, exec, execWrbuf, hc, if_true]
    exact portWrite_ready hp hr rfl hb
  | mod8 | mod16 | mod32 =>
    obtain ⟨hr, rfl, rfl, rfl⟩ := hi
    simp only [Instr.countOk, beq_iff_eq] at hc
    simp only [isModify, true_and]
    exact portModify_ready hp hr (by rw [hc]; rfl) hb
  | _ => exact hi.elim

/-- A store has at least one octet (rule R81). -/
theorem Stores.count_pos {i : Instr} {s : State} {r : Reg} {off n : Nat} {v : Wide} (hi : Stores i s r off n v) : 1 ≤ n := by
  obtain ⟨hc, hi⟩ := hi
  cases i with
  | wr8 | wr16 | wr32 | mod8 | mod16 | mod32 =>
    obtain ⟨-, -, rfl, -⟩ := hi
    decide
  | wrbuf =>
    obtain ⟨-, -, rfl, -⟩ := hi
    simp only [Instr.countOk, Bool.and_eq_true, decide_eq_true_eq] at hc
    obtain ⟨⟨h1, -⟩, -⟩ := hc
    exact h1
  | _ => exact hi.elim

/-- The fifteen registers of the configuration lock (rule R76). -/
theorem regLocked_iff (r : Reg) :
    regLocked r = true ↔ r ∈ ([.sysCfg, .txFctrl, .chanCtrl, .phyCfg, .rxFwto, .preToc, .sfdToc, .rxSniff, .txAntd, .rxAntd,
      .ciaAdjust, .dxTime, .drefTime, .aonCfg, .sleepCnt] : List Reg) := by
  cases r <;> decide

theorem locked_iff (r : Reg) (s : State) :
    locked r s = true ↔ regLocked r = true ∧ (active s = true ∨ busy s = true) := by
  simp only [locked, Bool.and_eq_true, Bool.or_eq_true]

end Sys2Proof.Machine
end

section
/-! SUPPORT. A write of an `RW` register: the octets it replaces, and its side effects as a comparison of the configuration before and after
(rules R62, R66, R113, R178, R236). -/

namespace Sys2Proof.Machine

/-! ### Octets replaced -/

theorem getLsbD_lowOctets (n i : Nat) : (lowOctets n).getLsbD i = (decide (i < 160) && decide (i < 8 * n)) := by
  rw [lowOctets, BitVec.getLsbD_ofNat, Nat.testBit_two_pow_sub_one]

/-- Inside the container, a splice takes the bits of the access from the value and the others from the old content. -/
theorem getLsbD_splice (old v : Wide) (off n : Nat) {i : Nat} (hi : i < 160) :
    (splice old off n v).getLsbD i = if 8 * off ≤ i ∧ i < 8 * (off + n) then v.getLsbD (i - 8 * off) else old.getLsbD i := by
  simp only [splice, BitVec.getLsbD_or, BitVec.getLsbD_and, BitVec.getLsbD_not, BitVec.getLsbD_shiftLeft, getLsbD_lowOctets, hi,
    decide_true, Bool.true_and, show i - 8 * off < 160 by omega]
  by_cases hlo : 8 * off ≤ i
  · have hsub : i - 8 * off < 8 * n ↔ i < 8 * (off + n) := by omega
    by_cases hhi : i < 8 * (off + n) <;> simp [hlo, hhi, hsub, show ¬ i < 8 * off by omega]
  · simp [hlo, show i < 8 * off by omega]

/-- A splice replaces exactly the octets of the access (rule R113). -/
theorem octet_splice (old v : Wide) (off n : Nat) {k : Nat} (hk : k < 20) :
    octet (splice old off n v) k = if off ≤ k ∧ k < off + n then octet v (k - off) else octet old k := by
  refine BitVec.eq_of_getLsbD_eq fun i hi => ?_
  have hin : 8 * off ≤ 8 * k + i ∧ 8 * k + i < 8 * (off + n) ↔ off ≤ k ∧ k < off + n := by omega
  simp only [octet, BitVec.getLsbD_extractLsb', getLsbD_splice old v off n (show 8 * k + i < 160 by omega), hin]
  split
  · next h => rw [BitVec.getLsbD_extractLsb', show 8 * k + i - 8 * off = 8 * (k - off) + i by omega]
  · rw [BitVec.getLsbD_extractLsb']

/-- An octet below a register's width survives the cut to that width. -/
theorem octet_setWidth (w : Wide) {m k : Nat} (hk : k < m) : octet ((w.setWidth (8 * m)).setWidth 160) k = octet w k := by
  refine BitVec.eq_of_getLsbD_eq fun i hi => ?_
  simp only [octet, BitVec.getLsbD_extractLsb', BitVec.getLsbD_setWidth, show 8 * k + i < 8 * m by omega, decide_true, Bool.true_and]
  by_cases h : 8 * k + i < 160
  · simp [h]
  · simp [h, BitVec.getLsbD_of_ge w (8 * k + i) (by omega)]

/-! ### A register given a content -/

theorem regOctets_le (r : Reg) : regOctets r ≤ 20 := by
  cases r <;> decide

/-- No `RW` register is buffer-selected (rule R21). -/
theorem regBuffered_of_rw {r : Reg} (hrw : regAccess r = .rw) : regBuffered r = false := by
  cases r <;> cases hrw <;> rfl

/-- An `RW` register reads as what was put there, cut to its width. -/
theorem regView_regPut {r : Reg} (hrw : regAccess r = .rw) (w : Wide) (s : State) :
    regView (regPut r w s) r = (w.setWidth (8 * regOctets r)).setWidth 160 := by
  cases r <;> cases hrw <;> rfl

end Sys2Proof.Machine
end

section
/-! SUPPORT. The side effects of a store, as a comparison of the configuration before and after it (rules R66, R178, R236). -/

namespace Sys2Proof.Machine

variable {a : Saved} {u : State}

/-- The side effects on `u` of a store that changed the configuration `a` to `u`'s: calibration dropped, the PLL left, and the double buffer
reset (rules R178, R236). -/
def sideEffects (a : Saved) (u : State) : State :=
  { u with
    cal := calAfter a u.saved u.cal
    locus := if chanTouched a u.saved = true ∧ u.locus = .idlePll then .idleRc else u.locus
    db := if dbTouched a u.saved then { hwBuf := false, hostBuf := false, full0 := false, full1 := false } else u.db
    stale0 := u.stale0 && !dbTouched a u.saved
    stale1 := u.stale1 && !dbTouched a u.saved }

/-- A changed channel touches the receive calibration too (rule R236). -/
theorem rxCalTouched_of_chan {b : Saved} (h : chanTouched a b = true) : rxCalTouched a b = true := by
  have hne : a.chanCtrl ≠ b.chanCtrl := fun he => by simp [chanTouched, he] at h
  simp [rxCalTouched, hne]

/-- A change of channel alone (rule R236, first row). -/
theorem sideEffects_channel (hc : chanTouched a u.saved = true) (hd : dbTouched a u.saved = false) :
    sideEffects a u = channelChanged u := by
  cases hl : u.locus <;> simp [channelChanged, sideEffects, calAfter, hc, hd, hl, rxCalTouched_of_chan hc]

/-- On the same channel, the double buffer and the receive calibration are what a store can touch. -/
theorem sideEffects_same_channel (hc : chanTouched a u.saved = false) :
    sideEffects a u =
      if rxCalTouched a u.saved then dropRxCal (if dbTouched a u.saved then resetDb u else u)
      else if dbTouched a u.saved then resetDb u else u := by
  cases hr : rxCalTouched a u.saved <;> cases hd : dbTouched a u.saved <;>
    simp [sideEffects, calAfter, dropRxCal, resetDb, hc, hr, hd]

/-- A store that changes none of the four registers has no side effect. -/
theorem sideEffects_none (hcfg : u.saved.sysCfg = a.sysCfg) (hchan : u.saved.chanCtrl = a.chanCtrl)
    (hphy : u.saved.phyCfg = a.phyCfg) (htx : u.saved.txFctrl = a.txFctrl) : sideEffects a u = u := by
  rw [sideEffects_same_channel (by simp [chanTouched, hchan])]
  simp [rxCalTouched, dbTouched, hcfg, hchan, hphy, htx]

/-- The side effects of a register write are those its change of the configuration calls for. -/
theorem writeEffects_regPut (r : Reg) (w : Wide) (s : State) :
    writeEffects r s (regPut r w s) = sideEffects s.saved (regPut r w s) := by
  cases r with
  | sysCfg | phyCfg | txFctrl =>
    refine Eq.trans ?_ (sideEffects_same_channel ?_).symm
    · simp [writeEffects, rxCalTouched, dbTouched, regPut]
    · exact bne_self_eq_false _
  | chanCtrl =>
    have hd : dbTouched s.saved (regPut .chanCtrl w s).saved = false := bne_self_eq_false _
    cases hc : chanTouched s.saved (regPut .chanCtrl w s).saved with
    | true =>
      rw [sideEffects_channel hc hd]
      exact if_pos hc
    | false =>
      rw [sideEffects_same_channel hc, hd]
      refine (if_neg (Bool.not_eq_true _ ▸ hc)).trans ?_
      simp [rxCalTouched, regPut]
  | _ => exact (sideEffects_none rfl rfl rfl rfl).symm

/-! ### What a store of an `RW` register leaves -/

variable {r : Reg}

/-- A register given a content: the mode, the calibration and the double buffer stand. -/
theorem regPut_frame (r : Reg) (w : Wide) (s : State) :
    (regPut r w s).cal = s.cal ∧ (regPut r w s).locus = s.locus ∧ (regPut r w s).db = s.db ∧
      (regPut r w s).stale0 = s.stale0 ∧ (regPut r w s).stale1 = s.stale1 := by
  cases r <;> exact ⟨rfl, rfl, rfl, rfl, rfl⟩

/-- A register given a content: the clock and the deadlines stand. -/
theorem regPut_times (r : Reg) (w : Wide) (s : State) :
    (regPut r w s).dl = s.dl ∧ (regPut r w s).sysTime = s.sysTime := by
  cases r <;> exact ⟨rfl, rfl⟩

theorem regPut_response (r : Reg) (w : Wide) (s : State) (l : List Byte) :
    regPut r w { s with response := l } = { regPut r w s with response := l } := by
  cases r <;> rfl

/-- Bits above a register's width are not stored. -/
theorem regPut_cut (hrw : regAccess r = .rw) (w : Wide) (s : State) :
    regPut r ((w.setWidth (8 * regOctets r)).setWidth 160) s = regPut r w s := by
  cases r <;> cases hrw <;> simp [regPut, regOctets]

/-- The state that a store of `v` to octets `off` to `off + n - 1` of an `RW` register leaves. -/
def stored (r : Reg) (off n : Nat) (v : Wide) (s : State) : State :=
  { sideEffects s.saved (regPut r (splice (regView s r) off n v) s) with response := [] }

/-- A register write of an `RW` register at the port. -/
theorem writeReg_eq_stored (hrw : regAccess r = .rw) (off n : Nat) (v : Wide) (s : State) :
    writeReg r off n v { s with response := [] } = stored r off n v s := by
  rw [writeReg, hrw]
  refine (writeEffects_regPut r _ _).trans ?_
  rw [regPut_response]
  rfl

/-- A store to an unlocked `RW` register completes under a good CRC (rules R112, R113). -/
theorem exec_of_stores_rw {i : Instr} {s : State} {off n : Nat} {v : Wide} (hp : PortReady s) (hc : crcGood s = true)
    (hi : Stores i s r off n v) (hb : off + n ≤ regOctets r) (hrw : regAccess r = .rw) (hl : locked r s = false) :
    exec i s = .next (stored r off n v s) := by
  have hspecial : ¬(isModify i = true ∧ (r = .sysStatus ∨ r = .cmd)) := by
    rintro ⟨-, rfl | rfl⟩ <;> cases hrw
  rw [exec_of_stores hp hi hb, hl, if_neg Bool.false_ne_true, if_neg hspecial, ← writeReg_eq_stored hrw]
  exact underCrc_good hc

/-- After a store the register holds the spliced content: the side effects leave it alone. -/
theorem regView_stored (hrw : regAccess r = .rw) (off n : Nat) (v : Wide) (s : State) :
    regView (stored r off n v s) r = ((splice (regView s r) off n v).setWidth (8 * regOctets r)).setWidth 160 := by
  rw [← regView_regPut hrw _ s]
  cases r <;> cases hrw <;> rfl

/-- Exactly the octets of the access are replaced (rule R113). -/
theorem octet_stored (hrw : regAccess r = .rw) (off n : Nat) (v : Wide) (s : State) {k : Nat} (hk : k < regOctets r) :
    octet (regView (stored r off n v s) r) k =
      if off ≤ k ∧ k < off + n then octet v (k - off) else octet (regView s r) k := by
  rw [regView_stored hrw, octet_setWidth _ hk]
  exact octet_splice _ _ _ _ (Nat.lt_of_lt_of_le hk (regOctets_le r))

/-- Awake, what is due depends on the phase, the clock and the deadlines alone (rule R265). -/
theorem PortReady.congr {s t : State} (hp : PortReady s) (hl : t.locus = s.locus) (hd : t.dl = s.dl)
    (ht : t.sysTime = s.sysTime) : PortReady t := by
  obtain ⟨ha, hdue⟩ := hp
  have htimeout : timeoutDue t = timeoutDue s := by simp only [timeoutDue, dueAt, hl, hd, ht]
  refine ⟨by simpa only [asleep, hl] using ha, hdue ▸ ?_⟩
  simp only [due, htimeout, dueAt, hl, hd, ht]
  cases hs : s.locus with
  | sleep => simp [asleep, hs] at ha
  | tx p | rx p => cases p <;> rfl
  | _ => rfl

theorem portReady_idleRc {t : State} (hl : t.locus = .idleRc) : PortReady t := by
  simp [PortReady, asleep, due, hl]

theorem PortReady.regPut {s : State} (hp : PortReady s) (r : Reg) (w : Wide) : PortReady (regPut r w s) := by
  obtain ⟨-, hlocus, -⟩ := regPut_frame r w s
  obtain ⟨hdl, htime⟩ := regPut_times r w s
  exact hp.congr hlocus hdl htime

/-- Side effects leave the port enabled: at most they take `IDLE_PLL` to `IDLE_RC` (rule R236). -/
theorem PortReady.sideEffects (hp : PortReady u) (a : Saved) : PortReady (sideEffects a u) := by
  by_cases hc : chanTouched a u.saved = true ∧ u.locus = .idlePll
  · exact portReady_idleRc (if_pos hc)
  · exact hp.congr (if_neg hc) rfl rfl

/-- A store leaves the port enabled (rule R100). -/
theorem portReady_stored {s : State} (hp : PortReady s) (r : Reg) (off n : Nat) (v : Wide) : PortReady (stored r off n v s) :=
  (hp.regPut r _).sideEffects s.saved

end Sys2Proof.Machine
end

section
/-! SUPPORT. Refused accesses: a count that does not fit, a register or octets outside the table, and a `CIRRD` outside its region (rules
R61, R92, R108). -/

namespace Sys2Proof.Machine

theorem access_reservedId {id off : Byte} {n : Nat} {f : Reg → Res} (hr : regOfId id = none) :
    access id off n f = .refused .reservedId := by
  simp [access, hr]

theorem access_outOfBounds {id off : Byte} {n : Nat} {f : Reg → Res} {r : Reg} (hr : regOfId id = some r)
    (hb : regOctets r < off.toNat + n) : access id off n f = .refused .outOfBounds := by
  simp [access, hr, Nat.not_le.2 hb]

/-- A register-form operation makes the checks of rules R92 and R61: the count, then the access. -/
def Checks (x : Res) (countOk : Bool) (id off n : Byte) : Prop :=
  ∃ f, x = if countOk then access id off n.toNat f else .refused .badCount

/-- A width checked before the access is a count checked before the access. -/
theorem width_then_access {id off n : Byte} {width : Nat} (f : Reg → Res) :
    (if n.toNat ≠ width then .refused .badCount else access id off width f) =
      if n.toNat == width then access id off n.toNat f else .refused .badCount := by
  by_cases h : n.toNat = width <;> simp [h]

section
variable {id off n : Byte} {width : Nat} {s : State}

theorem portRead_checks (hp : PortReady s) : Checks (portRead id off n width s) (n.toNat == width) id off n := by
  rw [portRead, atPort_ready hp.1 hp.2]
  exact ⟨_, width_then_access _⟩

theorem portWrite_checks (hp : PortReady s) (v : Wide) : Checks (portWrite id off n width v s) (n.toNat == width) id off n := by
  rw [portWrite, atPort_ready hp.1 hp.2]
  exact ⟨_, width_then_access _⟩

theorem portModify_checks (hp : PortReady s) (a o : Wide) :
    Checks (portModify id off n width a o s) (n.toNat == width) id off n := by
  rw [portModify, atPort_ready hp.1 hp.2]
  exact ⟨_, width_then_access _⟩

/-- A buffer form checks its count, then runs with it as its width (rule R81). -/
theorem Checks.buffer {x : Res} (h : Checks x (n.toNat == n.toNat) id off n) (hp : PortReady s) (ok : Bool) :
    Checks (if ok then x else atPort s fun _ => .refused .badCount) ok id off n := by
  obtain ⟨f, rfl⟩ := h
  refine ⟨f, ?_⟩
  cases ok with
  | true => simp
  | false => simp [atPort_ready hp.1 hp.2]

end

theorem beq_eq_toNat_beq (n m : Byte) : (n == m) = (n.toNat == m.toNat) := by
  rw [Bool.eq_iff_iff, beq_iff_eq, beq_iff_eq, BitVec.toNat_inj]

/-- Every register-form record makes the checks, but for the carrier of a command word, which is in bounds (rules R81, R85). -/
theorem exec_checks {i : Instr} {s : State} {id o c : Byte} (hp : PortReady s) (hh : headerOf i = some (id, o, c)) :
    Checks (exec i s) i.countOk id o c ∨ (id = cmdId ∧ o = 0 ∧ c = 2 ∧ i.countOk = true) := by
  cases i with
  | rd8 | rd16 | rd32 =>
    cases hh
    rw [Instr.countOk, beq_eq_toNat_beq]
    exact .inl (portRead_checks hp)
  | wr8 | wr32 =>
    cases hh
    rw [Instr.countOk, beq_eq_toNat_beq]
    exact .inl (portWrite_checks hp _)
  | mod8 | mod16 | mod32 =>
    cases hh
    rw [Instr.countOk, beq_eq_toNat_beq]
    exact .inl (portModify_checks hp _ _)
  | wr16 _ _ _ v =>
    cases hh
    by_cases hw : id = cmdId ∧ o = 0 ∧ c = 2
    · obtain ⟨hid, ho, hc⟩ := hw
      exact .inr ⟨hid, ho, hc, by simp [Instr.countOk, hc]⟩
    · rw [Instr.countOk, beq_eq_toNat_beq, exec, execWr16, if_neg hw]
      exact .inl (portWrite_checks hp _)
  | rdbuf =>
    cases hh
    exact .inl ((portRead_checks hp).buffer hp _)
  | wrbuf =>
    cases hh
    exact .inl ((portWrite_checks hp _).buffer hp _)
  | _ => cases hh

/-! ### CIR reads -/

theorem regionOf_eq {region : Byte} {r : Fin 3} (h : region.toNat = r.val) : regionOf region = some r := by
  simp only [regionOf, h, r.isLt, dif_pos]

theorem portCirRead_reservedRegion {region : Byte} {o c : BitVec 16} {ks : List Nat} {s : State} (hp : PortReady s)
    (h : 3 ≤ region.toNat) : portCirRead region o c ks s = .refused .reservedRegion := by
  rw [portCirRead, atPort_ready hp.1 hp.2, regionOf, dif_neg (Nat.not_lt.2 h)]

theorem portCirRead_outOfRange {region : Byte} {o c : BitVec 16} {ks : List Nat} {s : State} {r : Fin 3} (hp : PortReady s)
    (hr : region.toNat = r.val) (h : Config.cirLen r < o.toNat + c.toNat) :
    portCirRead region o c ks s = .refused .cirOutOfRange := by
  rw [portCirRead, atPort_ready hp.1 hp.2, regionOf_eq hr]
  exact if_neg (Nat.not_le.2 h)

/-! ### Adjacent CIR reads -/

theorem cirAddrs_add (r : Fin 3) (o a b : Nat) (ks : List Nat) :
    cirAddrs r o (a + b) ks = cirAddrs r o a ks ++ cirAddrs r (o + a) b ks := by
  simp only [cirAddrs, List.range_add, List.flatMap_append, List.flatMap_map, Nat.add_assoc]

theorem mem_cirAddrs {r : Fin 3} {o n x : Nat} {ks : List Nat} :
    x ∈ cirAddrs r o n ks ↔ ∃ i < n, ∃ k ∈ ks, cirAddr r (o + i) k = x := by
  simp [cirAddrs]

/-- A read of listed octets returns them after the dummy octet, whatever the free octets are (rules R50, R108). -/
theorem cirResponse_of_listed {s : State} {addrs : List Nat} (h : ∀ x ∈ addrs, (Memory.read s.cir x).isSome = true) :
    (cirResponse s addrs).drop 1 = addrs.map fun x => (Memory.read s.cir x).getD 0 := by
  have hoctet : ∀ p ∈ addrs.zipIdx, cirOctet s (p.2 + 1) p.1 = (Memory.read s.cir p.1).getD 0 := fun p hp => by
    obtain ⟨b, hb⟩ := Option.isSome_iff_exists.1 (h p.1 (List.fst_mem_of_mem_zipIdx hp))
    simp only [cirOctet, hb, Option.getD_some]
  calc (cirResponse s addrs).drop 1
      = addrs.zipIdx.map fun p => (Memory.read s.cir p.1).getD 0 := List.map_congr_left hoctet
    _ = (addrs.zipIdx.map Prod.fst).map fun x => (Memory.read s.cir x).getD 0 := by rw [List.map_map]; rfl
    _ = addrs.map fun x => (Memory.read s.cir x).getD 0 := by rw [List.zipIdx_map_fst]

/-- A CIR read in range, of listed octets, returns them after the dummy octet and leaves the port and the memory as they are (rules R108,
R109). -/
theorem portCirRead_listed {s : State} {region : Byte} {r : Fin 3} {o c : BitVec 16} {ks : List Nat} (hp : PortReady s)
    (hr : region.toNat = r.val) (hlen : o.toNat + c.toNat ≤ Config.cirLen r)
    (hcir : ∀ x ∈ cirAddrs r o.toNat c.toNat ks, (Memory.read s.cir x).isSome = true) :
    ∃ t, portCirRead region o c ks s = .next t ∧ PortReady t ∧ t.cir = s.cir ∧
      t.response.drop 1 = (cirAddrs r o.toNat c.toNat ks).map fun x => (Memory.read s.cir x).getD 0 := by
  rw [portCirRead, atPort_ready hp.1 hp.2, regionOf_eq hr]
  exact ⟨_, if_pos hlen, hp, rfl, cirResponse_of_listed hcir⟩

/-- Two adjacent reads of listed octets return the octets of the whole read, whatever octets of a sample are asked for (rule R110). -/
theorem portCirRead_join {s : State} {region : Byte} {r : Fin 3} {o a b : BitVec 16} {ks : List Nat} (hp : PortReady s)
    (hr : region.toNat = r.val) (hlen : o.toNat + a.toNat + b.toNat ≤ Config.cirLen r)
    (hcir : ∀ k j, k < a.toNat + b.toNat → j ∈ ks → (Memory.read s.cir (cirAddr r (o.toNat + k) j)).isSome = true) :
    ∃ t u v, portCirRead region o (a + b) ks s = .next t ∧ portCirRead region o a ks s = .next u ∧
      portCirRead region (o + a) b ks u = .next v ∧ t.response.drop 1 = u.response.drop 1 ++ v.response.drop 1 := by
  have hmax : Config.cirLen r ≤ 1016 := (Config.cirLen_bounds r).2
  have hab : (a + b).toNat = a.toNat + b.toNat := BitVec.toNat_add_of_lt (by omega)
  have hoa : (o + a).toNat = o.toNat + a.toNat := BitVec.toNat_add_of_lt (by omega)
  have hsplit : cirAddrs r o.toNat (a + b).toNat ks =
      cirAddrs r o.toNat a.toNat ks ++ cirAddrs r (o + a).toNat b.toNat ks := by rw [hab, hoa, cirAddrs_add]
  have hlisted : ∀ x ∈ cirAddrs r o.toNat (a + b).toNat ks, (Memory.read s.cir x).isSome = true := fun x hx => by
    obtain ⟨k, hk, j, hj, rfl⟩ := mem_cirAddrs.1 hx
    exact hcir k j (hab ▸ hk) hj
  obtain ⟨t, ht, -, -, htr⟩ := portCirRead_listed hp hr (by omega) hlisted
  rw [hsplit] at hlisted htr
  obtain ⟨u, hu, hpu, huc, hur⟩ := portCirRead_listed hp hr (by omega) fun x hx => hlisted x (List.mem_append_left _ hx)
  obtain ⟨v, hv, -, -, hvr⟩ := portCirRead_listed hpu hr (by omega) fun x hx => huc ▸ hlisted x (List.mem_append_right _ hx)
  exact ⟨t, u, v, ht, hu, hv, by rw [htr, hur, hvr, huc, List.map_append]⟩

end Sys2Proof.Machine
end

section
/-! The obligations of spec/20_memory.md: what stores change, the configuration lock, accesses that are refused, and reads of the CIR
memory in pieces. -/

namespace Sys2Proof.Proofs.MemoryMap

open Sys2Proof.Machine

/-- Settles O13: the store is a splice of octets followed by the side effects of the change. -/
theorem storeRw : Obligations.store_rw := by
  intro i s r off n v hp hc hi hb hrw hl
  refine ⟨stored r off n v s, exec_of_stores_rw hp hc hi hb hrw hl, fun k hk => octet_stored hrw off n v s hk, ?_⟩
  obtain ⟨hcal, hlocus, hdb, hs0, hs1⟩ := regPut_frame r (splice (regView s r) off n v) s
  rw [regView_stored hrw, regPut_cut hrw]
  simp only [stored, sideEffects, hcal, hlocus, hdb, hs0, hs1]

/-- Settles O14: the port stays enabled, and the octets read are those the store replaced. -/
theorem storeReadsBack : Obligations.store_reads_back := by
  intro i s id r off n v hp hc hi hid hb hrw hl
  have hn := hi.count_pos
  have hmax := regOctets_le r
  have hoff : (BitVec.ofNat 8 off).toNat = off := (BitVec.toNat_ofNat _ _).trans (Nat.mod_eq_of_lt (by omega))
  have hcount : (BitVec.ofNat 8 n).toNat = n := (BitVec.toNat_ofNat _ _).trans (Nat.mod_eq_of_lt (by omega))
  have hread : Reads (.rdbuf id (BitVec.ofNat 8 off) (BitVec.ofNat 8 n)) r off n :=
    ⟨by simp only [Instr.countOk, hcount, Bool.and_eq_true, decide_eq_true_eq]; omega, hid, hoff.symm, hcount.symm⟩
  have hbuf : regBuffered r ≠ true := Bool.eq_false_iff.1 (regBuffered_of_rw hrw)
  refine ⟨_, _, exec_of_stores_rw hp hc hi hb hrw hl, exec_of_reads (portReady_stored hp r off n v) hread hb, ?_⟩
  rw [readReg_fresh fun h => absurd h hbuf]
  refine List.map_congr_left fun k hk => ?_
  have hk : k < n := List.mem_range.1 hk
  rw [octet_stored hrw off n v s (by omega), if_pos (by omega), Nat.add_sub_cancel_left]

/-- Settles O18: a store meets the lock first, and the lock is the fifteen registers while the block is active or busy. -/
theorem storeLockedRefused : Obligations.store_locked_refused := by
  have hlock (s : State) (r : Reg) := (locked_iff r s).trans (and_congr_left' (regLocked_iff r))
  refine ⟨fun i s r off n v hp hi hb hr ha => ?_, hlock⟩
  rw [exec_of_stores hp hi hb, if_pos ((hlock s r).2 ⟨hr, ha⟩)]

/-- Settles O19: the port checks the count, then the access; a CIR read its region, then its range; and the record its form. -/
theorem badAccessesRefused : Obligations.bad_accesses_refused := by
  refine ⟨fun i s id o c hp hh => ?_, fun s region o c hp => ⟨fun h => ?_, fun r hr h => ?_⟩,
    fun s octets c rest hr hp ha => ?_⟩
  · rcases exec_checks hp hh with ⟨f, hx⟩ | ⟨rfl, rfl, rfl, hok⟩
    · rw [hx]
      refine ⟨fun hc => by simp [hc], fun hc hid => ?_, fun r hc hid hb => ?_⟩
      · rw [hc, if_pos rfl, access_reservedId hid]
      · rw [hc, if_pos rfl, access_outOfBounds hid hb]
    · have hcmd : regOfId cmdId = some .cmd := rfl
      refine ⟨fun hc => Bool.noConfusion (hok.symm.trans hc), fun _ hid => ?_, fun r _ hid hb => ?_⟩
      · cases hcmd.symm.trans hid
      · cases hcmd.symm.trans hid
        exact absurd hb (by decide)
  · exact ⟨portCirRead_reservedRegion hp h, portCirRead_reservedRegion hp h⟩
  · exact ⟨portCirRead_outOfRange hp hr h, portCirRead_outOfRange hp hr h⟩
  · rw [step_of_agenda hr hp.2 ha]
    have hbad (why : Refusal) : badRecord why { s with agenda := rest, crcOk := c } = .refused why := atPort_ready hp.1 hp.2
    refine ⟨fun t hd => ?_, fun hd => ?_, fun i b more hd => ?_⟩ <;> simp only [perform, portStep, hd, hbad]

/-- Settles O23: both forms are one read of some octets of each sample, and such reads join. -/
theorem cirChunksJoin : Obligations.cir_chunks_join := by
  refine fun s region r o a b hp hr hlen => ⟨fun hcir => ?_, fun hcir => ?_⟩
  · exact portCirRead_join hp hr hlen fun k j hk hj => hcir k j hk (by revert j; decide)
  · exact portCirRead_join hp hr hlen fun k j hk hj => hcir k j hk (by simpa using hj)

end Sys2Proof.Proofs.MemoryMap
end

section
/-! SUPPORT. Command words (format C): every test of the decoder is a row, an opcode with the bits above its argument zero, and
the words of a row are the opcode with an argument (rules R85 to R89). -/

namespace Sys2Proof

/-! ### Rows of the command table -/

/-- The word with an opcode in bits 15:12 and an argument of `k` bits in its low bits (rule R85). -/
def commandWord (op : BitVec 4) {k : Nat} (arg : BitVec k) : BitVec 16 := op.setWidth 16 <<< 12 ||| arg.setWidth 16

/-- `w` has the opcode and no bit between it and its low `k` bits (rule R86). -/
abbrev InRow (op : BitVec 4) (k : Nat) (w : BitVec 16) : Prop := opOf w = op ∧ w.extractLsb' k (12 - k) = 0

variable {op : BitVec 4} {k : Nat} {w : BitVec 16}

theorem getLsbD_commandWord (arg : BitVec k) {i : Nat} (hi : i < 16) :
    (commandWord op arg).getLsbD i = ((decide (12 ≤ i) && op.getLsbD (i - 12)) || arg.getLsbD i) := by
  simp only [commandWord, BitVec.getLsbD_or, BitVec.getLsbD_shiftLeft, BitVec.getLsbD_setWidth, hi, decide_true, Bool.true_and]
  by_cases h : i < 12
  · simp [h, Nat.not_le.2 h]
  · simp [h, Nat.not_lt.1 h, show i - 12 < 16 by omega]

/-- Bit by bit, a word is in a row when its bits from the argument on are the opcode's alone. -/
theorem inRow_iff_getLsbD (hk : k ≤ 12) :
    InRow op k w ↔ ∀ i < 16, k ≤ i → w.getLsbD i = (decide (12 ≤ i) && op.getLsbD (i - 12)) := by
  refine ⟨fun ⟨hop, hz⟩ i hi hki => ?_, fun h => ⟨?_, ?_⟩⟩
  · by_cases h12 : 12 ≤ i
    · rw [← hop]
      simp [opOf, h12, show i - 12 < 4 by omega, show 12 + (i - 12) = i by omega]
    · have hbit := congrArg (BitVec.getLsbD · (i - k)) hz
      simpa [h12, show i - k < 12 - k by omega, show k + (i - k) = i by omega] using hbit
  · refine BitVec.eq_of_getLsbD_eq fun i hi => ?_
    simp [opOf, hi, h (12 + i) (by omega) (by omega)]
  · refine BitVec.eq_of_getLsbD_eq fun i hi => ?_
    simp [hi, h (k + i) (by omega) (by omega), show ¬ 12 ≤ k + i by omega]

/-- The decoder's tests: the bits of `w` from `k` on are those of an opcode alone exactly when `w` is in the row. -/
theorem mask_eq_iff_inRow (hk : k ≤ 12) :
    w &&& (BitVec.allOnes 16 <<< k) = commandWord op (0 : BitVec 0) ↔ InRow op k w := by
  rw [inRow_iff_getLsbD hk, BitVec.eq_of_getLsbD_eq_iff]
  refine forall₂_congr fun i hi => ?_
  rw [getLsbD_commandWord _ hi, BitVec.getLsbD_and, BitVec.getLsbD_shiftLeft, BitVec.getLsbD_allOnes]
  by_cases hki : k ≤ i
  · simp [hi, hki, Nat.not_lt.2 hki, show i - k < 16 by omega]
  · simp [hi, hki, Nat.not_le.1 hki, show ¬ 12 ≤ i by omega]

theorem eq_iff_inRow : w = commandWord op (0 : BitVec 0) ↔ InRow op 0 w := by
  rw [← mask_eq_iff_inRow (Nat.zero_le 12), BitVec.shiftLeft_zero, BitVec.and_allOnes]

theorem InRow.exists_arg (hk : k ≤ 12) (h : InRow op k w) : ∃ x : BitVec k, w = commandWord op x := by
  refine ⟨w.extractLsb' 0 k, BitVec.eq_of_getLsbD_eq fun i hi => ?_⟩
  rw [getLsbD_commandWord _ hi, BitVec.getLsbD_extractLsb', Nat.zero_add]
  by_cases hki : k ≤ i
  · simp [Nat.not_lt.2 hki, (inRow_iff_getLsbD hk).1 h i hi hki]
  · simp [Nat.not_le.1 hki, show ¬ 12 ≤ i by omega]

theorem inRow_commandWord (hk : k ≤ 12) (x : BitVec k) : InRow op k (commandWord op x) := by
  refine (inRow_iff_getLsbD hk).2 fun i hi hki => ?_
  rw [getLsbD_commandWord _ hi, BitVec.getLsbD_of_ge x i hki, Bool.or_false]

/-- The argument of a command word is its low bits. -/
theorem extractLsb'_commandWord (hk : k ≤ 12) (x : BitVec k) : (commandWord op x).extractLsb' 0 k = x := by
  refine BitVec.eq_of_getLsbD_eq fun i hi => ?_
  rw [BitVec.getLsbD_extractLsb', Nat.zero_add, getLsbD_commandWord _ (by omega)]
  simp [hi, show ¬ 12 ≤ i by omega]

/-- The decoder of command words, row by row (rule R86). -/
theorem decodeCommand_eq_rows (w : BitVec 16) : decodeCommand w =
    if InRow 0 0 w then some .trxoff
    else if InRow 1 5 w then some (.tx (startOfBits (w.extractLsb' 0 3)) (w.getLsbD 3) (w.getLsbD 4))
    else if InRow 2 4 w then some (.rx (startOfBits (w.extractLsb' 0 3)) (w.getLsbD 3))
    else if InRow 3 2 w then some (.setstate (targetOfBits (w.extractLsb' 0 2)))
    else if InRow 4 2 w then some (.calrx (w.getLsbD 0) (w.getLsbD 1))
    else if InRow 5 0 w then some .xtalcomp
    else if InRow 6 8 w then some (.txpwr (w.extractLsb' 0 8))
    else if InRow 7 0 w then some .dbfree
    else if InRow 8 1 w then some (.sleep (w.getLsbD 0))
    else if InRow 9 0 w then some .softreset
    else none := by
  simp only [← eq_iff_inRow, ← mask_eq_iff_inRow (show 1 ≤ 12 by decide), ← mask_eq_iff_inRow (show 2 ≤ 12 by decide),
    ← mask_eq_iff_inRow (show 4 ≤ 12 by decide), ← mask_eq_iff_inRow (show 5 ≤ 12 by decide),
    ← mask_eq_iff_inRow (show 8 ≤ 12 by decide)]
  rfl

/-! ### Words and commands -/

theorem encodeCommand_tx_of_inRow (h : InRow 1 5 w) :
    encodeCommand (.tx (startOfBits (w.extractLsb' 0 3)) (w.getLsbD 3) (w.getLsbD 4)) = some w := by
  obtain ⟨x, rfl⟩ := h.exists_arg (by decide)
  revert x
  decide

theorem encodeCommand_rx_of_inRow (h : InRow 2 4 w) :
    encodeCommand (.rx (startOfBits (w.extractLsb' 0 3)) (w.getLsbD 3)) = some w := by
  obtain ⟨x, rfl⟩ := h.exists_arg (by decide)
  revert x
  decide

theorem encodeCommand_setstate_of_inRow (h : InRow 3 2 w) :
    encodeCommand (.setstate (targetOfBits (w.extractLsb' 0 2))) = some w := by
  obtain ⟨x, rfl⟩ := h.exists_arg (by decide)
  revert x
  decide

theorem encodeCommand_calrx_of_inRow (h : InRow 4 2 w) : encodeCommand (.calrx (w.getLsbD 0) (w.getLsbD 1)) = some w := by
  obtain ⟨x, rfl⟩ := h.exists_arg (by decide)
  revert x
  decide

theorem encodeCommand_txpwr_of_inRow (h : InRow 6 8 w) : encodeCommand (.txpwr (w.extractLsb' 0 8)) = some w := by
  obtain ⟨x, rfl⟩ := h.exists_arg (by decide)
  rw [extractLsb'_commandWord (by decide)]
  rfl

theorem encodeCommand_sleep_of_inRow (h : InRow 8 1 w) : encodeCommand (.sleep (w.getLsbD 0)) = some w := by
  obtain ⟨x, rfl⟩ := h.exists_arg (by decide)
  revert x
  decide

/-- One row of the decoder: an instruction comes from the row, or from those after it. -/
theorem encodeCommand_of_ite {p : Prop} [Decidable p] {i j : Instr} {o : Option Instr} (h : (if p then some j else o) = some i)
    (hrow : p → encodeCommand j = some w) (hrest : o = some i → encodeCommand i = some w) : encodeCommand i = some w := by
  split at h
  · next hp =>
    cases h
    exact hrow hp
  · exact hrest h

/-- A word that decodes to a command is its word: no bit of it is dropped. -/
theorem encodeCommand_of_decodeCommand {i : Instr} (h : decodeCommand w = some i) : encodeCommand i = some w := by
  have bare {op : BitVec 4} (h : InRow op 0 w) : some (commandWord op (0 : BitVec 0)) = some w :=
    congrArg some (eq_iff_inRow.2 h).symm
  rw [decodeCommand_eq_rows] at h
  refine encodeCommand_of_ite h bare fun h => ?_
  refine encodeCommand_of_ite h encodeCommand_tx_of_inRow fun h => ?_
  refine encodeCommand_of_ite h encodeCommand_rx_of_inRow fun h => ?_
  refine encodeCommand_of_ite h encodeCommand_setstate_of_inRow fun h => ?_
  refine encodeCommand_of_ite h encodeCommand_calrx_of_inRow fun h => ?_
  refine encodeCommand_of_ite h bare fun h => ?_
  refine encodeCommand_of_ite h encodeCommand_txpwr_of_inRow fun h => ?_
  refine encodeCommand_of_ite h bare fun h => ?_
  refine encodeCommand_of_ite h encodeCommand_sleep_of_inRow fun h => ?_
  refine encodeCommand_of_ite h bare fun h => ?_
  cases h

theorem exists_startOfBits (x : Start) : ∃ b, startOfBits b = x := ⟨startBits x, startOfBits_startBits x⟩

theorem exists_targetOfBits (x : Target) : ∃ b, targetOfBits b = x := ⟨targetBits x, targetOfBits_targetBits x⟩

/-- The word of a command decodes to it. -/
theorem decodeCommand_of_encodeCommand {i : Instr} (h : encodeCommand i = some w) : decodeCommand w = some i := by
  cases i with
  | trxoff | xtalcomp | dbfree | softreset =>
    cases h
    rfl
  | tx start w4r cca =>
    obtain ⟨b, rfl⟩ := exists_startOfBits start
    cases h
    revert b w4r cca
    decide
  | rx start i =>
    obtain ⟨b, rfl⟩ := exists_startOfBits start
    cases h
    revert b i
    decide
  | setstate target =>
    obtain ⟨b, rfl⟩ := exists_targetOfBits target
    cases h
    revert b
    decide
  | calrx pgf adc =>
    cases h
    revert pgf adc
    decide
  | txpwr idx =>
    obtain rfl : commandWord 6 idx = w := Option.some.inj h
    obtain ⟨hop, hz⟩ : InRow 6 8 (commandWord 6 idx) := inRow_commandWord (by decide) idx
    simp only [decodeCommand_eq_rows, InRow, hop, hz, extractLsb'_commandWord (show 8 ≤ 12 by decide)]
    rfl
  | sleep deep =>
    cases h
    revert deep
    decide
  | _ => cases h

/-- A word decodes to a command exactly when it is the command's word. -/
theorem decodeCommand_eq_some_iff {i : Instr} : decodeCommand w = some i ↔ encodeCommand i = some w :=
  ⟨encodeCommand_of_decodeCommand, decodeCommand_of_encodeCommand⟩

/-- A word is no command's exactly when it is in none of the ten rows (rule R86). -/
theorem decodeCommand_eq_none_iff : decodeCommand w = none ↔
    ¬InRow 0 0 w ∧ ¬InRow 1 5 w ∧ ¬InRow 2 4 w ∧ ¬InRow 3 2 w ∧ ¬InRow 4 2 w ∧ ¬InRow 5 0 w ∧ ¬InRow 6 8 w ∧ ¬InRow 7 0 w ∧
      ¬InRow 8 1 w ∧ ¬InRow 9 0 w := by
  rw [decodeCommand_eq_rows]
  simp only [ite_eq_iff, reduceCtorEq, and_false, false_or, and_true]

end Sys2Proof
end

section
/-! SUPPORT. Port records (format P): what the decoder reads from each record, and the record of what it read (rules R80 to R85). -/

namespace Sys2Proof

/-! ### Octets -/

theorem octets16_le16 (b0 b1 : Byte) : octets16 (le16 b0 b1) = [b0, b1] := by
  have h0 : (b1 ++ b0).extractLsb' 0 8 = b0 := BitVec.extractLsb'_append_eq_right
  have h1 : (b1 ++ b0).extractLsb' 8 8 = b1 := BitVec.extractLsb'_append_eq_left
  rw [octets16, le16, h0, h1]

/-- The octets of a value with a new least significant one: that one, and the octets of the rest. -/
theorem extractLsb'_append_octet {w : Nat} (v : BitVec w) (b : Byte) (k : Nat) :
    (v ++ b).extractLsb' (k + 8) 8 = v.extractLsb' k 8 := by
  rw [BitVec.extractLsb'_append_eq_of_le (by omega), Nat.add_sub_cancel]

theorem octets32_le32 (b0 b1 b2 b3 : Byte) : octets32 (le32 b0 b1 b2 b3) = [b0, b1, b2, b3] := by
  have h0 : (b3 ++ b2 ++ b1 ++ b0).extractLsb' 0 8 = b0 := BitVec.extractLsb'_append_eq_right
  have h1 : (b3 ++ b2 ++ b1 ++ b0).extractLsb' 8 8 = b1 :=
    (extractLsb'_append_octet _ _ 0).trans BitVec.extractLsb'_append_eq_right
  have h2 : (b3 ++ b2 ++ b1 ++ b0).extractLsb' 16 8 = b2 :=
    (extractLsb'_append_octet _ _ 8).trans ((extractLsb'_append_octet _ _ 0).trans BitVec.extractLsb'_append_eq_right)
  have h3 : (b3 ++ b2 ++ b1 ++ b0).extractLsb' 24 8 = b3 :=
    (extractLsb'_append_octet _ _ 16).trans ((extractLsb'_append_octet _ _ 8).trans BitVec.extractLsb'_append_eq_left)
  rw [octets32, le32, h0, h1, h2, h3]

/-! ### Commands -/

theorem encode_of_encodeCommand {i : Instr} {w : BitVec 16} (h : encodeCommand i = some w) : encode i = commandRecord w := by
  cases i with
  | rd8 | rd16 | rd32 | rdbuf | wr8 | wr16 | wr32 | wrbuf | mod8 | mod16 | mod32 | cirrdF | cirrdR => cases h
  | _ => cases h; rfl

/-- A 16-bit write is a command exactly at `CMD`, offset 0, with a command's word (rule R85). -/
theorem wr16OrCommand_cases (id off n : Byte) (v : BitVec 16) :
    wr16OrCommand id off n v = .wr16 id off n v ∨
      (id = cmdId ∧ off = 0 ∧ n = 2 ∧ decodeCommand v = some (wr16OrCommand id off n v)) := by
  unfold wr16OrCommand
  split
  · next h =>
    obtain ⟨hid, hoff, hn⟩ := h
    split
    · next hv => exact .inr ⟨hid, hoff, hn, hv⟩
    · exact .inl rfl
  · exact .inl rfl

/-- A `WR16` record stands for the write or for the command it carries: either way it is its record (rule R85). -/
theorem encode_wr16OrCommand (id off n : Byte) (v : BitVec 16) :
    encode (wr16OrCommand id off n v) = [0x11, id, off, n] ++ octets16 v := by
  rcases wr16OrCommand_cases id off n v with h | ⟨rfl, rfl, rfl, h⟩
  · rw [h]
    rfl
  · exact encode_of_encodeCommand (encodeCommand_of_decodeCommand h)

theorem wr16OrCommand_of_canonical {id off n : Byte} {v : BitVec 16} (h : (Instr.wr16 id off n v).canonical = true) :
    wr16OrCommand id off n v = .wr16 id off n v := by
  rcases wr16OrCommand_cases id off n v with hw | ⟨rfl, rfl, rfl, hc⟩
  · exact hw
  · simp [Instr.canonical, hc] at h

theorem wr16OrCommand_of_decodeCommand {i : Instr} {w : BitVec 16} (h : decodeCommand w = some i) :
    wr16OrCommand cmdId 0 2 w = i := by
  simp [wr16OrCommand, h]

/-! ### Records read -/

/-- The record of a command decodes to it (rule R85). -/
theorem decode_commandRecord {i : Instr} {w : BitVec 16} (h : encodeCommand i = some w) (rest : List Byte) :
    decode (commandRecord w ++ rest) = .ok (i, rest) := by
  have hd : decode (commandRecord w ++ rest) = .ok (wr16OrCommand cmdId 0 2 (le16 (w.extractLsb' 0 8) (w.extractLsb' 8 8)), rest) :=
    rfl
  rw [hd, le16_octets16, wr16OrCommand_of_decodeCommand (decodeCommand_of_encodeCommand h)]

theorem decode_wrbuf {id off n : Byte} {data : List Byte} (h : data.length = n.toNat) (rest : List Byte) :
    decode (encode (.wrbuf id off n data) ++ rest) = .ok (.wrbuf id off n data, rest) := by
  have ht : takeOctets n.toNat (data ++ rest) = some (data, rest) := h ▸ takeOctets_append data rest
  have hd : decode (encode (.wrbuf id off n data) ++ rest) = decodeBody 0x13 id off n (data ++ rest) := rfl
  rw [hd]
  simp [decodeBody, ht]

/-- A well-formed instruction is read back from its record. -/
theorem decode_encode {i : Instr} (h : i.wellFormed = true) (rest : List Byte) : decode (encode i ++ rest) = .ok (i, rest) := by
  simp only [Instr.wellFormed, Bool.and_eq_true] at h
  obtain ⟨⟨⟨hcount, -⟩, -⟩, hcanon⟩ := h
  cases i with
  | rd8 | rd16 | rd32 | rdbuf | wr8 | mod8 => rfl
  | wr16 id off n v =>
    have hd : decode (encode (.wr16 id off n v) ++ rest) =
      .ok (wr16OrCommand id off n (le16 (v.extractLsb' 0 8) (v.extractLsb' 8 8)), rest) := rfl
    rw [hd, le16_octets16, wr16OrCommand_of_canonical hcanon]
  | wr32 id off n v =>
    exact congrArg (fun x => Except.ok (Instr.wr32 id off n x, rest)) (le32_octets32 v)
  | wrbuf id off n data =>
    simp only [Instr.countOk, Bool.and_eq_true, beq_iff_eq] at hcount
    exact decode_wrbuf hcount.2 rest
  | mod16 id off n a o =>
    exact congrArg₂ (fun x y => Except.ok (Instr.mod16 id off n x y, rest)) (le16_octets16 a) (le16_octets16 o)
  | mod32 id off n a o =>
    exact congrArg₂ (fun x y => Except.ok (Instr.mod32 id off n x y, rest)) (le32_octets32 a) (le32_octets32 o)
  | cirrdF region offset count =>
    exact congrArg₂ (fun x y => Except.ok (Instr.cirrdF region x y, rest)) (le16_octets16 offset) (le16_octets16 count)
  | cirrdR region offset count =>
    exact congrArg₂ (fun x y => Except.ok (Instr.cirrdR region x y, rest)) (le16_octets16 offset) (le16_octets16 count)
  | _ => exact decode_commandRecord rfl rest

/-! ### Records given back -/

/-- Register-form records, by their tag (rule R81). -/
theorem append_of_decodeBody {tag id off n : Byte} {d rest : List Byte} {i : Instr}
    (h : decodeBody tag id off n d = .ok (i, rest)) : encode i ++ rest = tag :: id :: off :: n :: d := by
  have htag (k : Byte) (hk : tag.toNat = k.toNat) : tag = k := BitVec.eq_of_toNat_eq hk
  unfold decodeBody at h
  split at h
  case h_1 hk => cases h; rw [htag 0x00 hk]; rfl
  case h_2 hk => cases h; rw [htag 0x01 hk]; rfl
  case h_3 hk => cases h; rw [htag 0x02 hk]; rfl
  case h_4 hk => cases h; rw [htag 0x03 hk]; rfl
  case h_5 hk => cases h; rw [htag 0x10 hk]; rfl
  case h_6 hk => cases h; rw [htag 0x11 hk, encode_wr16OrCommand, octets16_le16]; rfl
  case h_7 hk => cases h; rw [htag 0x12 hk, encode, octets32_le32]; rfl
  case h_8 hk =>
    split at h
    · next data q ht =>
      cases h
      obtain ⟨-, rfl⟩ := takeOctets_eq_some ht
      rw [htag 0x13 hk]
      rfl
    · cases h
  case h_9 hk => cases h; rw [htag 0x20 hk]; rfl
  case h_10 hk => cases h; rw [htag 0x21 hk, encode, octets16_le16, octets16_le16]; rfl
  case h_11 hk => cases h; rw [htag 0x22 hk, encode, octets32_le32, octets32_le32]; rfl
  case h_12 => cases h

/-- Whatever was read, its record and what is left are the octets it was read from. -/
theorem encode_append_of_decode {r rest : List Byte} {i : Instr} (h : decode r = .ok (i, rest)) : encode i ++ rest = r := by
  unfold decode at h
  split at h
  · cases h
  · split at h
    · split at h
      · exact append_of_decodeBody h
      · cases h
    · split at h
      · next hk =>
        split at h
        · cases h
          rw [hk, encode, octets16_le16, octets16_le16]
          rfl
        · cases h
      · split at h
        · next hk =>
          split at h
          · cases h
            rw [hk, encode, octets16_le16, octets16_le16]
            rfl
          · cases h
        · cases h

/-! ### Reserved tags -/

theorem decodeBody_ne_reservedTag (tag id off n t : Byte) (d : List Byte) :
    decodeBody tag id off n d ≠ .error (.reservedTag t) := by
  unfold decodeBody
  split
  case h_8 => split <;> simp
  all_goals simp

/-- A record whose tag is none of the register form and not of a CIR read is rejected for it (rule R92). -/
theorem decode_of_reservedTag {tag : Byte} (hreg : isRegisterTag tag = false) (hF : tag ≠ 0x30) (hR : tag ≠ 0x31)
    (r : List Byte) : decode (tag :: r) = .error (.reservedTag tag) := by
  simp only [decode, hreg, hF, hR, Bool.false_eq_true, if_false]

/-- A record rejected for its tag has a tag that is none of the 13 (rule R82). -/
theorem reservedTag_of_decode {tag t : Byte} {r : List Byte} (h : decode (tag :: r) = .error (.reservedTag t)) :
    t = tag ∧ isRegisterTag tag = false ∧ tag ≠ 0x30 ∧ tag ≠ 0x31 := by
  simp only [decode] at h
  split at h
  · split at h
    · exact absurd h (decodeBody_ne_reservedTag _ _ _ _ _ _)
    · cases h
  · next hreg =>
    split at h
    · split at h <;> cases h
    · next hF =>
      split at h
      · split at h <;> cases h
      · next hR =>
        cases h
        exact ⟨rfl, by simpa using hreg, hF, hR⟩

theorem knownTag_iff (tag : Byte) :
    tag ∈ ([0x00, 0x01, 0x02, 0x03, 0x10, 0x11, 0x12, 0x13, 0x20, 0x21, 0x22, 0x30, 0x31] : List Byte) ↔
      isRegisterTag tag = true ∨ tag = 0x30 ∨ tag = 0x31 := by
  simp only [isRegisterTag, List.mem_cons, List.not_mem_nil, or_false, decide_eq_true_eq, or_assoc]

end Sys2Proof
end

section
/-! SUPPORT. Commands: every command is the command mechanism with its own tests and body; what the mechanism does with a
command it does not admit, and what `SETSTATE` and `CALRX` do when admitted (rules R85, R90, R91, R112, R123 to R125, R226, R235). -/

namespace Sys2Proof.Machine

variable {soft argsOk : Bool} {admits extra : State → Bool} {body : State → Res} {s : State}

/-! ### Words -/

/-- `WR16 CMD, 0` is the command its word stands for (rule R85). -/
theorem exec_commandWord {w : BitVec 16} {i : Instr} (h : decodeCommand w = some i) (s : State) :
    exec (.wr16 cmdId 0 2 w) s = exec i s := by
  have hw : exec (.wr16 cmdId 0 2 w) s = issueCommand w s := rfl
  have hc := encodeCommand_of_decodeCommand h
  rw [hw, issueCommand, h]
  cases i with
  | rd8 | rd16 | rd32 | rdbuf | wr8 | wr16 | wr32 | wrbuf | mod8 | mod16 | mod32 | cirrdF | cirrdR => cases hc
  | _ => rfl

/-- `WR16 CMD, 0` with a word that is no command's (rule R90, test 2). -/
theorem exec_malformedWord {w : BitVec 16} (h : decodeCommand w = none) (s : State) :
    exec (.wr16 cmdId 0 2 w) s = malformedCommand w s := by
  have hw : exec (.wr16 cmdId 0 2 w) s = issueCommand w s := rfl
  rw [hw, issueCommand, h]

/-! ### Commands that are not admitted -/

/-- The admission tests 2 to 5 of rule R90, made by `command` on a command offered to `s`: all of them are passed. -/
def passes (soft argsOk : Bool) (admits extra : State → Bool) (s : State) : Bool :=
  argsOk && (!busy s || soft) && admits (commandStart s) && extra (commandStart s)

/-- Every command is the command mechanism, and its tests are those of rule R90's table. -/
theorem exec_command {i : Instr} (hi : isCommand i = true) (hs : asleep s = false) :
    ∃ soft argsOk admits extra body, exec i s = command soft argsOk admits extra body s ∧ (soft = true ↔ i = .softreset) ∧
      passes soft argsOk admits extra s = admitted i s := by
  have ha : asleep (commandStart s) = false := hs
  cases i with
  | rd8 | rd16 | rd32 | rdbuf | wr8 | wr16 | wr32 | wrbuf | mod8 | mod16 | mod32 | cirrdF | cirrdR => cases hi
  | _ =>
    simp only [exec, execTrxoff, execTx, execRx, execSetstate, execCalrx, execXtalcomp, execTxpwr, execDbfree, execSleep,
      execSoftreset]
    refine ⟨_, _, _, _, _, rfl, by simp, ?_⟩
    simp [passes, admitted, Bool.and_assoc, Instr.argsOk, ha, hs, txExtra, rxExtra, calrxAdmits, idling]

/-- What `CmdErr` writes (rule R91). -/
theorem raiseCmdErr_eq (s : State) :
    raiseCmdErr s = { s with cmdResult := 0xFF, sysStatus := s.sysStatus ||| 0x00180000 } := by
  simp only [raiseCmdErr, setResult, setEvent, BitVec.or_assoc]
  rfl

/-- `CmdErr` sets `CMDDONE` whatever the command's start did to it (rules R85, R91). -/
theorem raiseCmdErr_commandStart (s : State) : raiseCmdErr (commandStart s) =
    { s with response := [], cmdResult := 0xFF, sysStatus := s.sysStatus ||| 0x00180000 } := by
  have hs : (s.sysStatus &&& ~~~eventMask .cmddone) ||| 0x00180000 = s.sysStatus ||| 0x00180000 := by
    have hm : (0x00180000 : BitVec 32) = eventMask .cmddone ||| eventMask .cmderr := rfl
    rw [hm, ← BitVec.or_assoc, or_of_and_not, BitVec.or_assoc]
  rw [raiseCmdErr_eq, clearEvent_sysStatus, hs]
  rfl

/-- A command with a bad transport CRC is refused (rule R112). -/
theorem command_badCrc (hp : PortReady s) (hc : crcGood s = false) :
    command soft argsOk admits extra body s = .refused .commandBadCrc := by
  have hc' : crcGood { s with response := [] } = false := hc
  rw [command, atPort_ready hp.1 hp.2]
  simp only [hc', Bool.not_false, if_true]

/-- After a calibration failure every command but `SOFTRESET` is refused (rule R235). -/
theorem command_cfgUndef (hp : PortReady s) (hc : crcGood s = true) (hu : s.cal.cfgUndef = true) :
    command false argsOk admits extra body s = .refused .cfgUndef := by
  have hc' : crcGood { s with response := [] } = true := hc
  rw [command, atPort_ready hp.1 hp.2]
  simp only [hc', clearEvent_cal, hu, Bool.not_true, Bool.not_false, Bool.and_self, Bool.false_eq_true, if_false, if_true]

/-- A command turned away by one of the tests 2 to 5 raises `CmdErr` (rules R90, R91). -/
theorem command_cmdErr (hp : PortReady s) (hc : crcGood s = true) (hu : s.cal.cfgUndef = false ∨ soft = true)
    (ht : passes soft argsOk admits extra s = false) :
    command soft argsOk admits extra body s = .next (raiseCmdErr (commandStart s)) := by
  have hc' : crcGood { s with response := [] } = true := hc
  have hu' : (s.cal.cfgUndef && !soft) = false := by
    rcases hu with h | h <;> simp [h]
  have hb : (busy (commandStart s) && !soft) = !(!busy s || soft) := by
    rw [Bool.not_or, Bool.not_not]
    rfl
  rw [command, atPort_ready hp.1 hp.2]
  simp only [hc', clearEvent_cal, hu', hb, Bool.not_true, Bool.false_eq_true, if_false]
  split_ifs with hargs hbusy hadmits hextra
  · rfl
  · rfl
  · rfl
  · rfl
  · simp only [Bool.not_eq_true', Bool.not_eq_false] at hargs hbusy hadmits hextra
    simp [passes, hargs, hbusy, hadmits, hextra] at ht

/-! ### Admitted commands -/

theorem exec_setstate_admitted {target : Target} (hr : CommandReady s) (ha : admitted (.setstate target) s = true) :
    exec (.setstate target) s = .next (setOpstate target (commandStart s)) := by
  obtain ⟨hp, hc, hu⟩ := hr
  obtain ⟨hargs, hb, hi⟩ : (Instr.setstate target).argsOk = true ∧ busy s = false ∧ idling s = true := by
    simpa [admitted] using ha
  have hx : exec (.setstate target) s = execSetstate target s := rfl
  rw [hx, execSetstate, command_runs hp hc (.inl hu) hargs (.inl hb) hi rfl]

theorem exec_calrx_admitted {pgf adc : Bool} (hr : CommandReady s) (ha : admitted (.calrx pgf adc) s = true) :
    exec (.calrx pgf adc) s = .next (startCalrx pgf adc (commandStart s)) := by
  obtain ⟨hp, hc, hu⟩ := hr
  simp only [admitted, Bool.and_eq_true, Bool.not_eq_true'] at ha
  obtain ⟨hargs, ⟨hb, hl⟩, hpre⟩ := ha
  have hx : exec (.calrx pgf adc) s = execCalrx pgf adc s := rfl
  rw [hx, execCalrx, command_runs hp hc (.inl hu) hargs (.inl hb) hl hpre]

/-- In `IDLE_PLL`, `SETSTATE IDLE` has nothing to do (rule R125). -/
theorem setOpstate_idle_of_idlePll (h : s.locus = .idlePll) : setOpstate .idle s = setResult .success s := by
  simp only [setOpstate, h]

/-- Away from `IDLE_PLL`, `SETSTATE IDLE` starts the PLL calibration (rule R125). -/
theorem setOpstate_idle_of_ne_idlePll (h : s.locus ≠ .idlePll) :
    setOpstate .idle s = { s with locus := .idleRc, calfsm := .pll 0 0 } := by
  simp only [setOpstate]
  split
  · next hl => exact absurd hl h
  all_goals rfl

end Sys2Proof.Machine
end

section
/-! SUPPORT. Stores of the registers that are not `RW`, and the writes of `SYS_STATUS` that clear nothing (rules R25, R76, R104 to
R106). -/

namespace Sys2Proof.Machine

/-- Clearing no event bit, where the bits above the events are zero, changes nothing (rules R25, R105). -/
theorem w1cStatus_of_zero {old : BitVec 32} {off : Nat} {v : Wide} (hv : (v <<< (8 * off)).extractLsb' 0 23 = 0)
    (hold : old >>> 23 = 0) : w1cStatus old off v = old := by
  refine BitVec.eq_of_getLsbD_eq fun i hi => ?_
  rw [w1cStatus, BitVec.getLsbD_and, BitVec.getLsbD_not, BitVec.getLsbD_setWidth]
  by_cases h : i < 23
  · have hbit := congrArg (BitVec.getLsbD · i) hv
    simp only [BitVec.getLsbD_extractLsb', h, decide_true, Bool.true_and, Nat.zero_add, BitVec.ofNat_eq_ofNat,
      BitVec.getLsbD_zero] at hbit
    simp [hbit, hi]
  · have hbit := congrArg (BitVec.getLsbD · (i - 23)) hold
    simp only [BitVec.getLsbD_ushiftRight, show 23 + (i - 23) = i by omega, BitVec.ofNat_eq_ofNat, BitVec.getLsbD_zero] at hbit
    simp [hbit]

theorem writeStatus_of_zero {s : State} {off : Nat} {v : Wide} (hv : (v <<< (8 * off)).extractLsb' 0 23 = 0)
    (hs : s.sysStatus >>> 23 = 0) : writeStatus off v s = s := by
  rw [writeStatus, w1cStatus_of_zero hv hs]
  have hsame : (eventSet s .rxfcg && !eventSet s .rxfcg) = false := Bool.and_not_self _
  simp [hsame]

/-- Only `RW` registers are locked (rule R76). -/
theorem regAccess_of_regLocked {r : Reg} (h : regLocked r = true) : regAccess r = .rw := by
  cases r <;> cases h <;> rfl

theorem locked_of_not_rw {r : Reg} (h : regAccess r ≠ .rw) (s : State) : locked r s = false :=
  Bool.eq_false_iff.2 fun hl => h (regAccess_of_regLocked ((locked_iff r s).1 hl).1)

/-- Under a good CRC, a store of a register that is not `RW` is a register write, unless it is a modify of a special register (rules
R106, R112, R113). -/
theorem exec_of_stores_not_rw {i : Instr} {s : State} {r : Reg} {off n : Nat} {v : Wide} (hp : PortReady s)
    (hc : crcGood s = true) (hi : Stores i s r off n v) (hb : off + n ≤ regOctets r) (hrw : regAccess r ≠ .rw)
    (hm : isModify i = true → r ≠ .sysStatus ∧ r ≠ .cmd) :
    exec i s = .next (writeReg r off n v { s with response := [] }) := by
  have hspecial : ¬(isModify i = true ∧ (r = .sysStatus ∨ r = .cmd)) := fun ⟨hmod, h⟩ => h.elim (hm hmod).1 (hm hmod).2
  rw [exec_of_stores hp hi hb, locked_of_not_rw hrw, if_neg Bool.false_ne_true, if_neg hspecial]
  exact underCrc_good hc

end Sys2Proof.Machine
end

section
/-! SUPPORT. CIR reads octet by octet: which octet of which sample stands where in the answer (rules R108, R109). -/

namespace Sys2Proof.Machine

theorem length_cirAddrs (r : Fin 3) (o n : Nat) (ks : List Nat) : (cirAddrs r o n ks).length = ks.length * n := by
  simp [cirAddrs, Nat.mul_comm]

theorem cirAddrs_one (r : Fin 3) (o : Nat) (ks : List Nat) : cirAddrs r o 1 ks = ks.map (cirAddr r o) := by
  simp [cirAddrs, List.range_one]

/-- Sample by sample, the octets asked for are read in their order. -/
theorem getElem?_cirAddrs (r : Fin 3) (o : Nat) {n k j x : Nat} {ks : List Nat} (hk : k < n) (hx : ks[j]? = some x) :
    (cirAddrs r o n ks)[ks.length * k + j]? = some (cirAddr r (o + k) x) := by
  obtain ⟨hj, -⟩ := List.getElem?_eq_some_iff.1 hx
  obtain ⟨m, rfl⟩ : ∃ m, n = k + (1 + m) := ⟨n - k - 1, by omega⟩
  rw [cirAddrs_add, cirAddrs_add, cirAddrs_one, List.getElem?_append_right (by rw [length_cirAddrs]; omega), length_cirAddrs,
    Nat.add_sub_cancel_left, List.getElem?_append_left (by rwa [List.length_map]), List.getElem?_map, hx]
  rfl

theorem length_cirResponse (s : State) (addrs : List Nat) : (cirResponse s addrs).length = 1 + addrs.length := by
  simp [cirResponse, Nat.add_comm]

/-- A listed octet is returned where its address stands, after the dummy octet (rules R50, R108). -/
theorem getElem?_cirResponse {s : State} {addrs : List Nat} {i a : Nat} {b : Byte} (ha : addrs[i]? = some a)
    (hb : Memory.read s.cir a = some b) : (cirResponse s addrs)[1 + i]? = some b := by
  rw [cirResponse, Nat.add_comm, List.getElem?_cons_succ, List.getElem?_map, List.getElem?_zipIdx, ha]
  simp [cirOctet, hb]

/-- A CIR read in range completes, and returns the listed octets of its samples in order (rules R108, R109). -/
theorem portCirRead_completes {s : State} {region : Byte} {r : Fin 3} {o c : BitVec 16} (ks : List Nat) (hp : PortReady s)
    (hr : region.toNat = r.val) (hlen : o.toNat + c.toNat ≤ Config.cirLen r) :
    ∃ t, portCirRead region o c ks s = .next t ∧ t = { s with response := t.response, draws := t.draws } ∧
      t.response.length = 1 + ks.length * c.toNat ∧
      ∀ k j x b, k < c.toNat → ks[j]? = some x → Memory.read s.cir (cirAddr r (o.toNat + k) x) = some b →
        t.response[1 + ks.length * k + j]? = some b := by
  rw [portCirRead, atPort_ready hp.1 hp.2, regionOf_eq hr]
  refine ⟨_, if_pos hlen, rfl, ?_, fun k j x b hk hx hb => ?_⟩
  · rw [length_cirResponse, length_cirAddrs]
  · rw [Nat.add_assoc]
    exact getElem?_cirResponse (getElem?_cirAddrs r o.toNat hk hx) hb

end Sys2Proof.Machine
end

section
/-! The obligations of spec/30_encoding.md: the encoding of records and command words, and what command words, stores of registers
that are not `RW`, and CIR reads do. -/

namespace Sys2Proof.Proofs.Encoding

open Sys2Proof.Machine

/-- Settles O1: every record is read by its tag, and a command's word is decoded to the command. -/
theorem decodeOfEncode : Obligations.decode_of_encode := fun _ rest h => decode_encode h rest

/-- Settles O2: no octet read is dropped, whatever the record stands for. -/
theorem encodeOfDecode : Obligations.encode_of_decode := fun _ _ _ h => encode_append_of_decode h

/-- Settles O3: the words of a command are those of its row, and a word is in no row by its opcode or a bit above the argument. -/
theorem wordsAndTags : Obligations.words_and_tags := by
  refine ⟨fun w i => decodeCommand_eq_some_iff, fun w => ?_, fun tag t r => ?_⟩
  · obtain ⟨n, hn⟩ : ∃ n : Fin 16, opOf w = BitVec.ofFin n := ⟨_, rfl⟩
    rw [decodeCommand_eq_none_iff]
    simp only [InRow, hn, Nat.sub_zero, Nat.reduceSub]
    generalize w.extractLsb' 0 12 = x0, w.extractLsb' 1 11 = x1, w.extractLsb' 2 10 = x2, w.extractLsb' 4 8 = x4,
      w.extractLsb' 5 7 = x5, w.extractLsb' 8 4 = x8
    -- opcode by opcode, one row at most is left, and both sides say whether its bits are zero
    fin_cases n <;> simp
  · rw [knownTag_iff, not_or, not_or, Bool.not_eq_true]
    refine ⟨reservedTag_of_decode, ?_⟩
    rintro ⟨rfl, hreg, hF, hR⟩
    exact decode_of_reservedTag hreg hF hR r

/-- Settles O15: such a store is a register write, which for these registers has no effect or is `CmdErr`. -/
theorem storeRoAndCmd : Obligations.store_ro_and_cmd := by
  intro i s r off n v hp hc hi hb
  refine ⟨fun hro => ?_, fun hr hm hv hs => ?_, fun hr hm => ?_⟩
  · have hne : r ≠ .sysStatus ∧ r ≠ .cmd := by
      constructor <;> rintro rfl <;> cases hro
    rw [exec_of_stores_not_rw hp hc hi hb (by simp [hro]) fun _ => hne, writeReg, hro]
  · subst hr
    rw [exec_of_stores_not_rw hp hc hi hb (by decide) fun h => absurd h (by simp [hm])]
    exact congrArg _ (writeStatus_of_zero hv hs)
  · subst hr
    rw [exec_of_stores_not_rw hp hc hi hb (by decide) fun h => absurd h (by simp [hm])]
    exact congrArg _ (raiseCmdErr_eq _)

/-- Settles O21: both forms are one read of some octets of each sample, in order. -/
theorem cirrdCompletes : Obligations.cirrd_completes := by
  intro s region o c r hp hr hlen
  constructor
  · obtain ⟨t, ht, hframe, hlength, hoctet⟩ := portCirRead_completes [0, 1, 2, 3, 4, 5] hp hr hlen
    have hks : ∀ j < 6, [0, 1, 2, 3, 4, 5][j]? = some j := by decide
    exact ⟨t, ht, hframe, hlength, fun k j b hk hj hb => hoctet k j j b hk (hks j hj) hb⟩
  · obtain ⟨t, ht, hframe, hlength, hoctet⟩ := portCirRead_completes [1, 2, 4, 5] hp hr hlen
    have hks : ∀ j < 4, [1, 2, 4, 5][j]? = some (if j < 2 then j + 1 else j + 2) := by decide
    exact ⟨t, ht, hframe, hlength, fun k j b hk hj hb => hoctet k j _ b hk (hks j hj) hb⟩

/-- Settles O24: the carrier issues the command its word decodes to. -/
theorem commandWordRuns : Obligations.command_word_runs := fun _ _ s h => exec_commandWord h s

/-- Settles O25: the command mechanism answers a command that fails a test with `CmdErr`; a malformed word fails the second. -/
theorem inadmissibleIsCmderr : Obligations.inadmissible_is_cmderr := by
  refine ⟨fun i s hi hp hc hu ha => ?_, fun w s hw hp hc hu => ?_⟩
  · obtain ⟨soft, argsOk, admits, extra, body, hx, hsoft, hpass⟩ := exec_command hi hp.1
    rw [hx, command_cmdErr hp hc (hu.imp_right hsoft.2) (hpass.trans ha), raiseCmdErr_commandStart]
  · rw [exec_malformedWord hw, malformedCommand, command_cmdErr hp hc (hu.imp_right fun h => by rw [h]; rfl) rfl,
      raiseCmdErr_commandStart]

/-- Settles O26: the command mechanism looks at the CRC and then at `CFG_UNDEF`, before any other test. -/
theorem commandsRefused : Obligations.commands_refused := by
  refine ⟨fun i s hi hp => ?_, fun w s hw hp => ?_⟩
  · obtain ⟨soft, argsOk, admits, extra, body, hx, hsoft, -⟩ := exec_command hi hp.1
    rw [hx]
    refine ⟨fun hc hu hne => ?_, command_badCrc hp⟩
    obtain rfl : soft = false := Bool.eq_false_iff.2 fun h => hne (hsoft.1 h)
    exact command_cfgUndef hp hc hu
  · rw [exec_malformedWord hw, malformedCommand]
    refine ⟨fun hc hu hne => ?_, command_badCrc hp⟩
    have hop : (opOf w == opSoftreset) = false := beq_eq_false_iff_ne.2 hne
    rw [hop]
    exact command_cfgUndef hp hc hu

/-- Settles O28: the command's body is the target's transition. -/
theorem setstateCompletes : Obligations.setstate_completes := by
  intro s hr
  refine ⟨fun ha => ?_, fun ha => ?_, fun ha hl => ?_, fun ha hl => ?_⟩
  · rw [exec_setstate_admitted hr ha]
    exact congrArg Host.Outcome.next
      (setResult_after_clear .success { s with response := [], locus := .init, cal.pllLocked := false })
  · rw [exec_setstate_admitted hr ha]
    exact congrArg Host.Outcome.next
      (setResult_after_clear .success { s with response := [], locus := .idleRc, cal.pllLocked := false })
  · rw [exec_setstate_admitted hr ha, setOpstate_idle_of_idlePll (s := commandStart s) hl]
    exact congrArg Host.Outcome.next (setResult_after_clear .success { s with response := [] })
  · rw [exec_setstate_admitted hr ha, setOpstate_idle_of_ne_idlePll (s := commandStart s) hl]
    rfl

/-- Settles O31: the command's body starts the calibration, and no result is reported yet. -/
theorem calrxStarts : Obligations.calrx_starts := by
  intro s pgf adc hr ha
  rw [exec_calrx_admitted hr ha]
  rfl

/-- Settles O4: each record is decoded octet by octet. -/
theorem specRecordsDecode : Obligations.spec_records_decode :=
  ⟨rfl, rfl, rfl, rfl, rfl, rfl, rfl, rfl⟩

end Sys2Proof.Proofs.Encoding
end

section
/-! SUPPORT. The port's first test, met by every instruction: asleep, or while a `Seq` transition is due, nothing runs (rules R100, R111,
R265). -/

namespace Sys2Proof.Machine

/-- An operation makes the port's first test before anything else (rule R100). -/
def PortFirst (s : State) (x : Res) : Prop := ∃ f, x = atPort s f

section
variable {s : State} {x : Res}

theorem PortFirst.portClosed (h : PortFirst s x) (ha : asleep s = true) : x = .fault .portClosed := by
  obtain ⟨f, rfl⟩ := h
  simp only [atPort, ha, if_true]

theorem PortFirst.seqDue (h : PortFirst s x) (ha : asleep s = false) (hd : due s ≠ none) : x = .fault .seqDue := by
  obtain ⟨f, rfl⟩ := h
  simp only [atPort, ha, Option.isSome_iff_ne_none.2 hd, Bool.false_eq_true, if_false, if_true]

end

section
variable (id off n : Byte) (width : Nat) (s : State)

theorem portRead_portFirst : PortFirst s (portRead id off n width s) := ⟨_, rfl⟩

theorem portWrite_portFirst (v : Wide) : PortFirst s (portWrite id off n width v s) := ⟨_, rfl⟩

theorem portModify_portFirst (a o : Wide) : PortFirst s (portModify id off n width a o s) := ⟨_, rfl⟩

end

theorem portCirRead_portFirst (region : Byte) (o c : BitVec 16) (ks : List Nat) (s : State) :
    PortFirst s (portCirRead region o c ks s) := ⟨_, rfl⟩

theorem command_portFirst (soft argsOk : Bool) (admits extra : State → Bool) (body : State → Res) (s : State) :
    PortFirst s (command soft argsOk admits extra body s) := ⟨_, rfl⟩

/-- A command word makes the port's first test, whatever it decodes to (rules R85, R100). -/
theorem issueCommand_portFirst (w : BitVec 16) (s : State) : PortFirst s (issueCommand w s) := by
  unfold issueCommand
  split <;> exact command_portFirst ..

/-- Every instruction makes the port's first test before anything else (rule R100). -/
theorem exec_portFirst (i : Instr) (s : State) : PortFirst s (exec i s) := by
  cases i with
  | rd8 | rd16 | rd32 => exact portRead_portFirst ..
  | wr8 | wr32 => exact portWrite_portFirst ..
  | mod8 | mod16 | mod32 => exact portModify_portFirst ..
  | cirrdF | cirrdR => exact portCirRead_portFirst ..
  | rdbuf =>
    simp only [exec, execRdbuf]
    split
    · exact portRead_portFirst ..
    · exact ⟨_, rfl⟩
  | wrbuf =>
    simp only [exec, execWrbuf]
    split
    · exact portWrite_portFirst ..
    · exact ⟨_, rfl⟩
  | wr16 =>
    simp only [exec, execWr16]
    split
    · exact issueCommand_portFirst ..
    · exact portWrite_portFirst ..
  | _ =>
    simp only [exec, execTrxoff, execTx, execRx, execSetstate, execCalrx, execXtalcomp, execTxpwr, execDbfree, execSleep,
      execSoftreset]
    exact command_portFirst ..

end Sys2Proof.Machine
end

section
/-! SUPPORT. A write of `SYS_STATUS` that may free the host's buffer, and stores under a bad transport CRC (rules R105, R112, R182). -/

namespace Sys2Proof.Machine

/-- A write of `SYS_STATUS` clears the bits written 1; the free follows where that clears a set `RXFCG` in auto mode over a full buffer
(rules R105, R182). -/
theorem writeStatus_eq (off : Nat) (v : Wide) (s : State) :
    writeStatus off v s =
      if s.sysStatus.getLsbD 7 = true ∧ (w1cStatus s.sysStatus off v).getLsbD 7 = false ∧ dbEnOf s.saved.sysCfg = true ∧
          dbAutoOf s.saved.sysCfg = true ∧ s.db.full s.db.hostBuf = true
      then freeBuffer { s with sysStatus := w1cStatus s.sysStatus off v }
      else { s with sysStatus := w1cStatus s.sysStatus off v } := by
  simp only [writeStatus, eventSet, eventBit, Bool.and_eq_true, Bool.not_eq_true', and_assoc]

/-! ### A register write depends neither on the transport's verdict nor on the number of draws (rule R112) -/

section
variable (s : State) (c : Bool) (d : Nat)

theorem freeBuffer_outside :
    freeBuffer { s with crcOk := c, draws := d } = { freeBuffer s with crcOk := c, draws := d } := by
  simp only [freeBuffer, setStale]
  split_ifs <;> rfl

theorem writeStatus_outside (off : Nat) (v : Wide) :
    writeStatus off v { s with crcOk := c, draws := d } = { writeStatus off v s with crcOk := c, draws := d } := by
  rw [writeStatus_eq, writeStatus_eq]
  split
  · exact freeBuffer_outside { s with sysStatus := w1cStatus s.sysStatus off v } c d
  · rfl

theorem regPut_outside (r : Reg) (w : Wide) :
    regPut r w { s with crcOk := c, draws := d } = { regPut r w s with crcOk := c, draws := d } := by
  cases r <;> rfl

theorem writeReg_of_rw {r : Reg} (hrw : regAccess r = .rw) (off n : Nat) (v : Wide) :
    writeReg r off n v s = sideEffects s.saved (regPut r (splice (regView s r) off n v) s) := by
  rw [writeReg, hrw]
  exact writeEffects_regPut r _ s

/-- A register write neither looks at the transport's verdict nor at the number of draws, and leaves both (rule R112). -/
theorem writeReg_outside (r : Reg) (off n : Nat) (v : Wide) :
    writeReg r off n v { s with crcOk := c, draws := d } = { writeReg r off n v s with crcOk := c, draws := d } := by
  cases ha : regAccess r with
  | rw =>
    rw [writeReg_of_rw _ ha, writeReg_of_rw _ ha, regPut_outside]
    rfl
  | w1c =>
    simp only [writeReg, ha]
    exact writeStatus_outside s c d off v
  | ro => simp only [writeReg, ha]
  | wo =>
    simp only [writeReg, ha]
    rfl

end

/-! ### A bad transport CRC -/

/-- What a store writes does not depend on the transport's verdict. -/
theorem Stores.withVerdict {i : Instr} {s : State} {r : Reg} {off n : Nat} {v : Wide} (h : Stores i s r off n v) (c : Bool) :
    Stores i { s with crcOk := c } r off n v := by
  cases i <;> exact h

theorem eq_false_of_crcGood {s : State} (h : crcGood s = false) : s.crcOk = false :=
  (Bool.or_eq_false_iff.1 h).1

/-- Under a bad CRC a write happens or does not, one value is drawn, and `SPICRCE` is set (rule R112, U6). -/
theorem underCrc_bad {s : State} (h : crcGood s = false) (f : State → State) :
    ∃ t, underCrc s f = .next (setEvent .spicrce t) ∧
      (t = { s with draws := s.draws + 1 } ∨ t = f { s with draws := s.draws + 1 }) := by
  simp only [underCrc, h, Bool.false_eq_true, if_false]
  split
  · exact ⟨_, rfl, .inr rfl⟩
  · exact ⟨_, rfl, .inl rfl⟩

theorem eventSet_setEvent (e : Event) (s : State) : eventSet (setEvent e s) e = true := by
  cases e <;> simp [eventSet, eventMask, eventBit]

/-- A store that the lock and the special registers let through is a register write under the transport CRC (rules R76, R106, R112). -/
theorem exec_of_stores_unlocked {i : Instr} {s : State} {r : Reg} {off n : Nat} {v : Wide} (hp : PortReady s)
    (hi : Stores i s r off n v) (hb : off + n ≤ regOctets r) (hl : locked r s = false)
    (hm : isModify i = true → r ≠ .sysStatus ∧ r ≠ .cmd) :
    exec i s = underCrc { s with response := [] } (writeReg r off n v) := by
  have hspecial : ¬(isModify i = true ∧ (r = .sysStatus ∨ r = .cmd)) := fun ⟨hmod, h⟩ => h.elim (hm hmod).1 (hm hmod).2
  rw [exec_of_stores hp hi hb, hl, if_neg Bool.false_ne_true, if_neg hspecial]

end Sys2Proof.Machine
end

section
/-! SUPPORT. The CIR memory after a good frame: the octets of each sample, where they are listed, and what a read decodes to (rules R50,
R108, R109, R191, R203, R205). -/

namespace Sys2Proof.Machine

/-! ### Samples as octets -/

/-- Octet `k` of a sample (0 to 5: three of the real part, three of the imaginary part), least significant first (rule R108). -/
def sampleOctet (x : Sample) (k : Nat) : Byte :=
  if k < 3 then x.re.extractLsb' (8 * k) 8 else x.im.extractLsb' (8 * (k - 3)) 8

theorem sampleCells_eq (a : Nat) (x : Sample) : sampleCells a x = (List.range 6).map fun k => (a + k, sampleOctet x k) := rfl

theorem mem_sampleCells (a : Nat) (x : Sample) {k : Nat} (hk : k < 6) : (a + k, sampleOctet x k) ∈ sampleCells a x := by
  rw [sampleCells_eq]
  exact List.mem_map_of_mem (List.mem_range.2 hk)

/-- A run lists every octet of its samples, six a sample. -/
theorem mem_runCells {xs : List Sample} {i : Nat} {x : Sample} (h : xs[i]? = some x) (a : Nat) {k : Nat} (hk : k < 6) :
    (a + 6 * i + k, sampleOctet x k) ∈ runCells a xs := by
  induction xs generalizing a i with
  | nil => cases h
  | cons y ys ih =>
    rw [runCells, List.mem_append]
    cases i with
    | zero =>
      cases h
      exact .inl (mem_sampleCells a x hk)
    | succ i =>
      rw [show a + 6 * (i + 1) + k = a + 6 + 6 * i + k by omega]
      exact .inr (ih h (a + 6))

theorem runCells_subset_cirCells (m : Meas) (r : Fin 3) : runCells (cirAddr r 0 0) (samplesOf m r) ⊆ cirCells m := by
  fin_cases r <;> simp [cirCells, samplesOf]

theorem length_samplesOf (m : Meas) (r : Fin 3) : (samplesOf m r).length = Config.cirLen r := by
  fin_cases r <;> simp [samplesOf]

/-! ### Reading the memory -/

/-- A memory in canonical form reads as what it lists. -/
theorem read_of_mem {m : Memory} (hm : Memory.wf m) {a : Nat} {b : Byte} (h : (a, b) ∈ m) : Memory.read m a = some b := by
  induction m with
  | nil => cases h
  | cons c m ih =>
    obtain ⟨hlt, hm⟩ := List.pairwise_cons.1 hm
    rcases List.mem_cons.1 h with rfl | h
    · exact List.lookup_cons_self
    · have hne : (a == c.1) = false := beq_eq_false_iff_ne.2 (hlt _ h).ne'
      rw [Memory.read, List.lookup_cons, hne]
      exact ih hm h

/-- After a good frame every octet of every sample is listed at its address (rule R191). -/
theorem read_cirCells {m : Meas} {r : Fin 3} {i : Nat} {x : Sample} (h : (samplesOf m r)[i]? = some x) {k : Nat} (hk : k < 6) :
    Memory.read (cirCells m) (cirAddr r i k) = some (sampleOctet x k) := by
  have haddr : cirAddr r i k = cirAddr r 0 0 + 6 * i + k := by
    simp only [cirAddr]
    omega
  rw [haddr]
  exact read_of_mem (cirCells_wf m) (runCells_subset_cirCells m r (mem_runCells h _ hk))

/-- The octets read of a run of samples are theirs, sample by sample. -/
theorem map_read_cirAddrs {m : Memory} {r : Fin 3} {ks : List Nat} {xs : List Sample} {o : Nat}
    (h : ∀ i x, xs[i]? = some x → ∀ k ∈ ks, Memory.read m (cirAddr r (o + i) k) = some (sampleOctet x k)) :
    (cirAddrs r o xs.length ks).map (fun a => (Memory.read m a).getD 0) = xs.flatMap fun x => ks.map (sampleOctet x) := by
  induction xs generalizing o with
  | nil => rfl
  | cons x xs ih =>
    rw [List.length_cons, Nat.add_comm, cirAddrs_add, cirAddrs_one, List.map_append, List.map_map, List.flatMap_cons]
    congr 1
    · exact List.map_congr_left fun k hk => congrArg (Option.getD · 0) (h 0 x rfl k hk)
    · refine ih fun i y hy k hk => ?_
      rw [Nat.add_assoc, Nat.add_comm 1 i]
      exact h (i + 1) y hy k hk

/-- A CIR read in range, over the memory of a good frame, returns the octets asked for of the frame's samples (rules R108, R109,
R191). -/
theorem portCirRead_samples {t : State} {m : Meas} {region : Byte} {r : Fin 3} {o c : BitVec 16} {ks : List Nat}
    (hp : PortReady t) (hcir : t.cir = cirCells m) (hr : region.toNat = r.val) (hlen : o.toNat + c.toNat ≤ Config.cirLen r)
    (hks : ∀ k ∈ ks, k < 6) :
    ∃ u, portCirRead region o c ks t = .next u ∧
      u.response.drop 1 = (((samplesOf m r).drop o.toNat).take c.toNat).flatMap fun x => ks.map (sampleOctet x) := by
  have hcount : (((samplesOf m r).drop o.toNat).take c.toNat).length = c.toNat := by
    rw [List.length_take, List.length_drop, length_samplesOf]
    omega
  have hread : ∀ i x, (((samplesOf m r).drop o.toNat).take c.toNat)[i]? = some x → ∀ k ∈ ks,
      Memory.read t.cir (cirAddr r (o.toNat + i) k) = some (sampleOctet x k) := fun i x hx k hk => by
    obtain ⟨hi, -⟩ := List.getElem?_eq_some_iff.1 hx
    rw [List.getElem?_take_of_lt (hcount ▸ hi), List.getElem?_drop] at hx
    rw [hcir]
    exact read_cirCells hx (hks k hk)
  have hlisted : ∀ a ∈ cirAddrs r o.toNat c.toNat ks, (Memory.read t.cir a).isSome = true := fun a ha => by
    obtain ⟨i, hi, k, hk, rfl⟩ := mem_cirAddrs.1 ha
    rw [hread i _ (List.getElem?_eq_getElem (hcount.symm ▸ hi)) k hk]
    rfl
  obtain ⟨u, hu, -, -, hresp⟩ := portCirRead_listed hp hr hlen hlisted
  refine ⟨u, hu, hresp.trans ?_⟩
  rw [← map_read_cirAddrs hread, hcount]

/-! ### Decoding -/

theorem append_two_octets (v : BitVec 24) : v.extractLsb' 16 8 ++ v.extractLsb' 8 8 = v.extractLsb' 8 16 :=
  BitVec.extractLsb'_append_extractLsb'_eq_extractLsb' rfl

/-- The octets of a component, put together again, are the component. -/
theorem append_three_octets (v : BitVec 24) : v.extractLsb' 16 8 ++ v.extractLsb' 8 8 ++ v.extractLsb' 0 8 = v := by
  rw [append_two_octets]
  exact (BitVec.extractLsb'_append_extractLsb'_eq_extractLsb' (x := v) (len₁ := 8) rfl).trans BitVec.extractLsb'_eq_self

/-- The two upper octets of a component are the component divided by 256, rounding down (rule R205). -/
theorem toInt_upper_octets (v : BitVec 24) : (v.extractLsb' 8 16).toInt = v.toInt / 256 := by
  rw [BitVec.toInt_eq_toNat_cond, BitVec.toInt_eq_toNat_cond, BitVec.extractLsb'_toNat, Nat.shiftRight_eq_div_pow]
  have hv := v.isLt
  omega

/-- `CirDecode` of all six octets of each sample gives the samples back (rule R205). -/
theorem cirDecodeFull_samples (xs : List Sample) :
    cirDecodeFull (xs.flatMap fun x => [0, 1, 2, 3, 4, 5].map (sampleOctet x)) =
      xs.map fun x => (x.re.signExtend 32, x.im.signExtend 32) := by
  induction xs with
  | nil => rfl
  | cons x xs ih =>
    have hre : sampleOctet x 2 ++ sampleOctet x 1 ++ sampleOctet x 0 = x.re := append_three_octets x.re
    have him : sampleOctet x 5 ++ sampleOctet x 4 ++ sampleOctet x 3 = x.im := append_three_octets x.im
    rw [List.map_cons, ← ih, ← hre, ← him]
    rfl

/-- `CirDecode` of the two upper octets of each component gives bits 23:8 of each (rules R109, R205). -/
theorem cirDecodeReduced_samples (xs : List Sample) :
    cirDecodeReduced (xs.flatMap fun x => [1, 2, 4, 5].map (sampleOctet x)) =
      xs.map fun x => ((x.re.extractLsb' 8 16).signExtend 32, (x.im.extractLsb' 8 16).signExtend 32) := by
  induction xs with
  | nil => rfl
  | cons x xs ih =>
    have hre : sampleOctet x 2 ++ sampleOctet x 1 = x.re.extractLsb' 8 16 := append_two_octets x.re
    have him : sampleOctet x 5 ++ sampleOctet x 4 = x.im.extractLsb' 8 16 := append_two_octets x.im
    rw [List.map_cons, ← ih, ← hre, ← him]
    rfl

/-! ### What a good frame leaves -/

/-- What comes after an attempt leaves the CIR memory alone (rule R77). -/
theorem AttemptEffect.cir_eq {s t : State} (h : AttemptEffect s t) : t.cir = s.cir := by
  cases h with
  | idle | sleep | overrun => rfl
  | hunt _ h =>
    obtain ⟨_, _, _, -, -, -, rfl⟩ := enterHunt_eq_next h
    rfl

theorem fillBuffer_cir (n : Bool) (s : State) : (fillBuffer n s).cir = s.cir := by
  simp only [fillBuffer]
  split
  · exact setStale_cir ..
  · exact setStale_cir ..

theorem frameStored_cir (len : BitVec 10) (rng : Bool) (m : Meas) (s : State) : (frameStored len rng m s).cir = cirCells m :=
  fillBuffer_cir _ _

/-- A frame ends only while its data are being received (rules R170, R185). -/
theorem airStep_frameEnd_eq_next {s t : State} {kind : FrameKind} {len : BitVec 10} {rng : Bool} {m : Meas}
    (h : airStep (.frameEnd kind len rng m) s = .next t) : frameEnd kind len rng m s = .next t := by
  cases hl : s.locus with
  | rx p =>
    cases p with
    | data =>
      simp only [airStep, hl] at h
      split at h
      · exact h
      · cases h
    | _ => simp [airStep, hl] at h
  | _ => simp [airStep, hl] at h

/-- A good frame that has ended leaves its samples in the CIR memory, whatever the receiver does next (rules R174, R191). -/
theorem cir_of_goodFrame {s t : State} {len : BitVec 10} {rng : Bool} {m : Meas}
    (h : airStep (.frameEnd .good len rng m) s = .next t) : t.cir = cirCells m := by
  have hgood : rxGood len rng m (setEvent .rxfcg (setEvent .rxfr s)) = .next t := airStep_frameEnd_eq_next h
  rw [(rxGood_effect hgood).cir_eq, frameStored_cir]

end Sys2Proof.Machine
end

section
/-! The obligations of spec/40_port_ops.md: when the port is closed, stores of the special registers, stores with a bad transport CRC,
and the samples a CIR read returns. -/

namespace Sys2Proof.Proofs.PortOps

open Sys2Proof.Machine

/-- Settles O7: every instruction makes the port's first test before anything else. -/
theorem portClosed : Obligations.port_closed := fun i s =>
  ⟨(exec_portFirst i s).portClosed, (exec_portFirst i s).seqDue⟩

/-- Settles O16: such a store is a register write, which for `SYS_STATUS` clears bits and may free the host's buffer. -/
theorem storeStatusClears : Obligations.store_status_clears := by
  intro i s off n v hp hc hi hm hb
  refine ⟨_, rfl, ?_⟩
  rw [exec_of_stores_not_rw hp hc hi hb (by decide) fun h => absurd h (by simp [hm])]
  exact congrArg _ (writeStatus_eq off v { s with response := [] })

/-- Settles O17: neither register is locked, so the modify gets as far as the test for a special register. -/
theorem modifySpecialRefused : Obligations.modify_special_refused := by
  intro i s r off n v hp hi hm hb hr
  have hrw : regAccess r ≠ .rw := by
    rcases hr with rfl | rfl <;> decide
  rw [exec_of_stores hp hi hb, locked_of_not_rw hrw, if_neg Bool.false_ne_true, if_pos ⟨hm, hr⟩]

/-- Settles O20: the register write is that of the good CRC, which neither the verdict nor the draw reaches. -/
theorem storeBadCrc : Obligations.store_bad_crc := by
  intro i s r off n v hp hc hi hb hl hm
  have hgood : exec i { s with crcOk := true } = .next (writeReg r off n v { s with crcOk := true, response := [] }) :=
    (exec_of_stores_unlocked (s := { s with crcOk := true }) hp (hi.withVerdict true) hb hl hm).trans (underCrc_good rfl)
  have hbad : crcGood { s with response := [] } = false := hc
  obtain ⟨t, ht, hwrite⟩ := underCrc_bad hbad (writeReg r off n v)
  refine ⟨_, _, (exec_of_stores_unlocked hp hi hb hl hm).trans ht, hgood, eventSet_setEvent _ _, ?_⟩
  rcases hwrite with rfl | rfl
  · exact .inl rfl
  · have hs := writeReg_outside { s with crcOk := true, response := [] } s.crcOk (s.draws + 1) r off n v
    rw [← eq_false_of_crcGood hc]
    exact .inr (congrArg (setEvent .spicrce) hs)

/-- Settles O22: the octets read are those of the frame's samples, and decoding them gives the samples back. -/
theorem cirReadAfterFrame : Obligations.cir_read_after_frame := by
  intro s t len rng m region o c r hframe hp hr hlen
  have hcir := cir_of_goodFrame hframe
  obtain ⟨u, hu, hfull⟩ := portCirRead_samples (ks := [0, 1, 2, 3, 4, 5]) hp hcir hr hlen (by decide)
  obtain ⟨v, hv, hreduced⟩ := portCirRead_samples (ks := [1, 2, 4, 5]) hp hcir hr hlen (by decide)
  refine ⟨u, v, hu, hv, ?_, ?_⟩
  · rw [hfull, cirDecodeFull_samples, List.map_map]
    refine List.map_congr_left fun x _ => ?_
    simp only [Function.comp_apply, BitVec.toInt_signExtend_of_le (show 24 ≤ 32 by decide)]
  · rw [hreduced, cirDecodeReduced_samples, List.map_map]
    refine List.map_congr_left fun x _ => ?_
    simp only [Function.comp_apply, BitVec.toInt_signExtend_of_le (show 16 ≤ 32 by decide), toInt_upper_octets]

end Sys2Proof.Proofs.PortOps
end

section
/-! SUPPORT. What an outside agent's step can do, said once, and which `OPSTATE` each effect can lead to (rules R126, R264). -/

namespace Sys2Proof.Machine

variable {s t : State}

/-! ### Steps of outside agents -/

/-- What an action that answers a next state does (rules R9, R264). -/
inductive ActionEffect (s : State) : Action → State → Prop
  | port (octets : List Byte) (c : Bool) {t : State} (ha : asleep s = false) (h : PortEffect { s with crcOk := c } t) :
    ActionEffect s (.port octets c) t
  | wakePin : ActionEffect s .wakePin (pinWake s)
  | wakeCs : ActionEffect s .wakeCs (pinCs s)
  | hardReset : ActionEffect s .hardReset (blockReset s)
  | tick : ActionEffect s .tick (tick s)
  | cal (d : CalDraw) {t : State} (h : CalEffect s t) : ActionEffect s (.cal d) t
  | air (e : AirEvent) {t : State} (h : AirEffect s t) : ActionEffect s (.air e) t
  | sensor (x : BitVec 8) (ha : asleep s = false) :
    ActionEffect s (.tempSample x) { s with tempSense := 0x0100#16 ||| x.setWidth 16 }

theorem perform_effect {a : Action} (h : perform a s = .next t) : ActionEffect s a t := by
  cases a with
  | port octets c =>
    obtain ⟨i, -, h⟩ := portStep_eq_next h
    have ha : asleep { s with crcOk := c } = false := asleep_of_exec h
    exact .port octets c ha (exec_effect h)
  | wakePin => cases h; exact .wakePin
  | wakeCs => cases h; exact .wakeCs
  | hardReset => cases h; exact .hardReset
  | tick => cases h; exact .tick
  | cal d => exact .cal d (calStep_effect h)
  | air e => exact .air e (airStep_effect h)
  | tempSample x =>
    simp only [perform, tempStep] at h
    split at h
    · cases h
    · next ha => cases h; exact .sensor x (by simpa using ha)

/-- Every step is a due transition's effect, or the next action's effect on the state with that action taken off the agenda. -/
theorem step_effect (h : step s = .next t) :
    (due s ≠ none ∧ SeqEffect s t) ∨
      (due s = none ∧ ∃ l k, ActionEffect { s with agenda := l, draws := k } (nextAction s) t) := by
  obtain ⟨-, ⟨q, hq, h⟩ | ⟨hd, a, u, h, ⟨rest, ha, rfl⟩ | ⟨ha, rfl, rfl⟩⟩⟩ := step_eq_next h
  · exact .inl ⟨by simp [hq], fire_effect hq h⟩
  · have hn : nextAction s = a := by simp only [nextAction, ha]
    exact .inr ⟨hd, rest, s.draws, hn ▸ perform_effect h⟩
  · have hn : nextAction s = Config.freeAction s.draws := by simp only [nextAction, ha]
    exact .inr ⟨hd, s.agenda, s.draws + 1, hn ▸ perform_effect h⟩

/-! ### The table of rule R126 -/

/-- The operating state goes from one state to the next as the table of rule R126 allows. -/
abbrev OpstateGoes (s t : State) : Prop := mayGo (kindOf s.locus) (kindOf t.locus) = true

theorem OpstateGoes.stays (h : t.locus = s.locus := by rfl) : OpstateGoes s t := by
  simp [OpstateGoes, mayGo, h]

theorem OpstateGoes.toInit (h : t.locus = .init := by rfl) : OpstateGoes s t := by
  rw [OpstateGoes, h]
  cases s.locus <;> rfl

/-- Every operating state can be left for sleep (rules R127, R132). -/
theorem OpstateGoes.toSleep (deep : Bool) : OpstateGoes s (sleepEntry deep t) := by
  have hk : kindOf (sleepEntry deep t).locus = .asleep := by cases deep <;> rfl
  rw [OpstateGoes, hk]
  cases s.locus <;> rfl

theorem OpstateGoes.toIdleRc (hi : idling s = true) (h : t.locus = .idleRc := by rfl) : OpstateGoes s t := by
  rw [OpstateGoes, h]
  cases hl : s.locus with
  | init | idleRc | idlePll => rfl
  | tx p | rx p | sleep | deepSleep => simp [idling, hl] at hi

/-! An attempt begins, and ends, in an operating state with the PLL locked (rule R225). -/

theorem OpstateGoes.toIdlePll (ha : needsPll s.locus = true) (h : t.locus = .idlePll := by rfl) : OpstateGoes s t := by
  rw [OpstateGoes, h]
  cases hl : s.locus with
  | idlePll | tx p | rx p => rfl
  | init | idleRc | sleep | deepSleep => simp [needsPll, hl] at ha

theorem OpstateGoes.toRx (ha : needsPll s.locus = true) {p : RxPhase} (h : t.locus = .rx p := by rfl) : OpstateGoes s t := by
  rw [OpstateGoes, h]
  cases hl : s.locus with
  | idlePll | tx q | rx q => rfl
  | init | idleRc | sleep | deepSleep => simp [needsPll, hl] at ha

theorem OpstateGoes.enterHunt (ha : needsPll s.locus = true) {u : State} (h : enterHunt u = .next t) : OpstateGoes s t := by
  obtain ⟨_, _, _, -, -, -, rfl⟩ := enterHunt_eq_next h
  exact .toRx ha

/-- What comes after an attempt: idle, sleep, or the receiver on. -/
theorem OpstateGoes.attemptEffect (ha : needsPll s.locus = true) {u : State} (h : AttemptEffect u t) : OpstateGoes s t := by
  cases h with
  | idle | overrun => exact .toIdlePll ha
  | sleep deep => exact .toSleep deep
  | hunt ho h => exact .enterHunt ha h

/-! ### The effects of a step -/

theorem CommandEffect.opstateGoes (h : CommandEffect s t) : OpstateGoes s t := by
  cases h with
  | done | failed | configured | calrx => exact .stays
  | dbfree =>
    obtain ⟨v, x, y, hf⟩ := freeBuffer_eq s
    rw [hf]
    exact .stays
  | trxoff =>
    unfold forceOff
    split
    · next hk =>
      refine .toIdlePll ?_
      cases hl : s.locus with
      | tx p | rx p => rfl
      | init | idleRc | idlePll | sleep | deepSleep => simp [active, hl] at hk
    · exact .stays
  | txShr w4r hl | txCca w4r d hl | txArmed w4r T hl => simp [OpstateGoes, hl, kindOf, mayGo]
  | rxOn c es hl h =>
    have hg : OpstateGoes s _ := .attemptEffect (by rw [hl]; rfl) h
    exact hg
  | rxArmed T hl => exact .toRx (by rw [hl]; rfl)
  | unlocked l hi hl =>
    obtain rfl | rfl := hl
    · exact .toInit
    · exact .toIdleRc hi
  | locking hi => exact .toIdleRc hi
  | sleep deep => exact .toSleep deep

/-- A write of a register moves `OPSTATE` only by a change of channel in `IDLE_PLL` (rule R236). -/
theorem WriteEffect.opstateGoes {r : Reg} (h : WriteEffect r s t) : OpstateGoes s t := by
  cases h with
  | readOnly | config | dbMode | status | command => exact .stays
  | statusFree m =>
    obtain ⟨v, x, y, hf⟩ := freeBuffer_eq { s with sysStatus := s.sysStatus &&& m }
    rw [hf]
    exact .stays
  | channel saved =>
    unfold channelChanged
    split
    · next hl => exact .toIdleRc (by simp [idling, show s.locus = .idlePll from hl])
    all_goals exact .stays

theorem PortEffect.opstateGoes (h : PortEffect s t) : OpstateGoes s t := by
  cases h with
  | read | storeDropped | cmdErr => exact .stays
  | store r off n v => exact (writeReg_effect r off n v { s with response := [] }).opstateGoes
  | storeBadCrc r off n v => exact (writeReg_effect r off n v { s with response := [], draws := s.draws + 1 }).opstateGoes
  | command hb hu h => exact h.opstateGoes
  | softreset => exact .toInit

theorem SeqEffect.opstateGoes (h : SeqEffect s t) : OpstateGoes s t := by
  cases h with
  | startTx hl | ccaClear hl | rmarker hl => rw [OpstateGoes, hl]; rfl
  | txEnd hl h => exact OpstateGoes.attemptEffect (by rw [hl]; rfl) h
  | startRx hl h => exact OpstateGoes.enterHunt (by rw [hl]; rfl) h
  | rxTimeout es p hl => exact .toIdlePll (by rw [hl]; rfl)
  | sniffSwitch => exact .stays
  | counterWake => exact .toInit

theorem AirEffect.opstateGoes (h : AirEffect s t) : OpstateGoes s t := by
  cases h with
  | ccaBusy hl => exact .toIdlePll (by rw [hl]; rfl)
  | preamble hl h =>
    unfold preambleFound at h
    split at h <;> cases h
    exact .toRx (by rw [hl]; rfl)
  | sfd hl => exact .toRx (by rw [hl]; rfl)
  | phr => exact .stays
  | good len rng m hl h => exact OpstateGoes.attemptEffect (by rw [hl]; rfl) h
  | errorEnd es p hl => exact .toIdlePll (by rw [hl]; rfl)
  | errorHunt es p hl hp h => exact OpstateGoes.enterHunt (by rw [hl]; rfl) h

/-- The PLL is locked in `IDLE_RC` only, where its calibration runs (rule R223). -/
theorem CalEffect.opstateGoes (hs : SeqInv s) (h : CalEffect s t) : OpstateGoes s t := by
  cases h with
  | locked cc hc =>
    have hf := hs.calibration
    rw [hc] at hf
    obtain ⟨⟨hl, -⟩, -⟩ := calFits_pll.1 hf
    rw [OpstateGoes, hl]
    rfl
  | onward c p hu =>
    obtain ⟨i, q, rfl⟩ := hu.eq_update
    exact .stays
  | ended code thr cal hu =>
    obtain ⟨i, q, rfl⟩ := hu.eq_update
    exact .stays

theorem ActionEffect.opstateGoes {a : Action} (hs : SeqInv s) (h : ActionEffect s a t) : OpstateGoes s t := by
  cases h with
  | port octets c ha h => exact h.opstateGoes
  | wakePin =>
    unfold pinWake
    split
    · exact .toInit
    · exact .stays
  | wakeCs =>
    unfold pinCs
    split
    · exact .toInit
    · exact .stays
  | hardReset => exact .toInit
  | tick =>
    unfold Machine.tick
    split
    · exact .stays
    · exact .stays
  | cal d h => exact h.opstateGoes hs
  | air e h => exact h.opstateGoes
  | sensor => exact .stays

end Sys2Proof.Machine
end

section
/-! SUPPORT. `TRXOFF` and `SLEEP` admitted, and the end of a transmitted frame (rules R120, R127, R128, R150, R165, R166). -/

namespace Sys2Proof.Machine

variable {s : State}

/-! ### `TRXOFF` -/

/-- Forcing the transceiver off, field by field (rule R120). -/
theorem forceOff_eq (s : State) : forceOff s = { s with
    locus := if active s then .idlePll else s.locus
    dl := if active s then Deadlines.none else s.dl
    sniffOn := if active s then true else s.sniffOn
    txW4r := if active s then false else s.txW4r
    phrOk := if active s then false else s.phrOk } := by
  unfold forceOff
  cases active s <;> rfl

theorem forceOff_of_not_active (h : active s = false) : forceOff s = s := by
  simp only [forceOff, h, Bool.false_eq_true, if_false]

theorem active_forceOff (s : State) : active (forceOff s) = false := by
  unfold forceOff
  split
  · rfl
  · next h => simpa using h

theorem forceOff_clearEvent (e : Event) (s : State) : forceOff (clearEvent e s) = clearEvent e (forceOff s) := by
  unfold forceOff
  have ha : active (clearEvent e s) = active s := rfl
  rw [ha]
  cases active s <;> rfl

/-- The port stays enabled when the transceiver is forced off. -/
theorem portReady_forceOff (hp : PortReady s) : PortReady (forceOff s) := by
  unfold forceOff
  split
  · exact ⟨rfl, rfl⟩
  · exact hp

theorem busy_forceOff (s : State) : busy (forceOff s) = busy s := by
  rw [forceOff_eq]
  rfl

/-- What `TRXOFF` leaves (rule R120). -/
def transceiverOff (s : State) : State :=
  { forceOff s with response := [], sysStatus := s.sysStatus ||| 0x00100000, cmdResult := 0x00 }

theorem exec_trxoff_admitted (hr : CommandReady s) (ha : admitted .trxoff s = true) :
    exec .trxoff s = .next (transceiverOff s) := by
  obtain ⟨hp, hc, hu⟩ := hr
  simp only [admitted, Bool.and_eq_true, Bool.not_eq_true'] at ha
  obtain ⟨-, hb, -⟩ := ha
  have hm : (!asleep (commandStart s)) = true := congrArg (!·) hp.1
  have hx : exec .trxoff s = execTrxoff s := rfl
  rw [hx, execTrxoff, command_runs hp hc (.inl hu) rfl (.inl hb) hm rfl, forceOff_clearEvent, setResult_after_clear, forceOff_eq,
    transceiverOff, forceOff_eq]
  rfl

/-- After `TRXOFF`, `TRXOFF` is admitted. -/
theorem transceiverOff_admits (hr : CommandReady s) (ha : admitted .trxoff s = true) :
    CommandReady (transceiverOff s) ∧ admitted .trxoff (transceiverOff s) = true := by
  obtain ⟨hp, hc, hu⟩ := hr
  simp only [admitted, Bool.and_eq_true, Bool.not_eq_true'] at ha
  obtain ⟨-, hb, -⟩ := ha
  have hpt : PortReady (transceiverOff s) := portReady_forceOff hp
  have hbt : busy (transceiverOff s) = false := (busy_forceOff s).trans hb
  refine ⟨⟨hpt, ?_, ?_⟩, ?_⟩
  · rw [transceiverOff, forceOff_eq]
    exact hc
  · rw [transceiverOff, forceOff_eq]
    exact hu
  · simp [admitted, Instr.argsOk, hbt, hpt.1]

/-- What is off stays as it is (rule R120). -/
theorem transceiverOff_idem (s : State) : transceiverOff (transceiverOff s) = transceiverOff s := by
  have hoff : forceOff (transceiverOff s) = transceiverOff s := forceOff_of_not_active (active_forceOff s)
  have hset : (transceiverOff s).sysStatus ||| 0x00100000 = (transceiverOff s).sysStatus := by
    simp only [transceiverOff, BitVec.or_assoc, BitVec.or_self]
  rw [transceiverOff, hoff, hset]
  rfl

/-! ### `SLEEP` -/

theorem exec_sleep_admitted {deep : Bool} (hr : CommandReady s) (ha : admitted (.sleep deep) s = true) :
    exec (.sleep deep) s = .next (sleepEntry deep (setResult .success (commandStart s))) := by
  obtain ⟨hp, hc, hu⟩ := hr
  simp only [admitted, Bool.and_eq_true, Bool.not_eq_true'] at ha
  obtain ⟨-, ⟨hb, hi⟩, he⟩ := ha
  have hx : exec (.sleep deep) s = execSleep deep s := rfl
  rw [hx, execSleep, command_runs hp hc (.inl hu) rfl (.inl hb) hi he]

/-! ### The receiver is turned on (rules R165, R166) -/

theorem interval_of_lt {count unit : Nat} (h : count * unit < 2 ^ 39) : interval count unit = some (BitVec.ofNat 40 (count * unit)) :=
  if_pos h

theorem interval_of_ge {count unit : Nat} (h : 2 ^ 39 ≤ count * unit) : interval count unit = none :=
  if_neg (Nat.not_lt.2 h)

/-- A deadline is given where its product fits. -/
theorem deadlineAfter_of_lt {now : Time} {count unit : Nat} (h : count * unit < 2 ^ 39) :
    deadlineAfter now count unit = some (timeoutFrom now count unit) := by
  unfold deadlineAfter timeoutFrom
  split
  · rfl
  · rw [interval_of_lt h]

theorem deadlineAfter_of_ge {now : Time} {count unit : Nat} (h : 2 ^ 39 ≤ count * unit) : deadlineAfter now count unit = none := by
  have h0 : count ≠ 0 := by
    rintro rfl
    omega
  rw [deadlineAfter, if_neg h0, interval_of_ge h]

/-- Where every product fits, the receiver turns on with its timeouts armed from now (rule R166). -/
theorem enterHunt_of_huntFits (h : huntFits s) : enterHunt s = .next (hunting s) := by
  obtain ⟨hf, hp, hn⟩ := h
  have hs : sniffFirst s = some (hunting s).dl.sniff := by
    unfold sniffFirst
    by_cases h0 : sniffOffOf s.saved.rxSniff = 0
    · simp [hunting, h0]
    · simp [hunting, h0, deadlineAfter_of_lt (hn h0), timeoutFrom]
  rw [enterHunt, deadlineAfter_of_lt hf, deadlineAfter_of_lt hp, hs]
  rfl

/-- Where a product reaches `2^39` DTU, turning the receiver on is refused (rule R166). -/
theorem enterHunt_of_not_huntFits (h : ¬huntFits s) : enterHunt s = .refused .intervalTooLong := by
  cases he : enterHunt s with
  | next t =>
    refine absurd ?_ h
    obtain ⟨f, p, n, hf, hp, hn, -⟩ := enterHunt_eq_next he
    have fits : ∀ {c u d}, deadlineAfter s.sysTime c u = some d → c * u < 2 ^ 39 := fun hd => by
      by_contra hge
      rw [deadlineAfter_of_ge (Nat.not_lt.1 hge)] at hd
      cases hd
    refine ⟨fits hf, fits hp, fun h0 => ?_⟩
    rw [sniffFirst, if_neg h0] at hn
    exact fits hn
  | refused e =>
    unfold enterHunt at he
    split at he <;> cases he
    rfl
  | fault e =>
    unfold enterHunt at he
    split at he <;> cases he

theorem rxEnableNow_of_overrun (h : overrun s = true) : rxEnableNow s = .next (rxOverrun s) := by
  rw [rxEnableNow, if_pos h]

theorem rxEnableNow_of_huntFits (ho : overrun s = false) (h : huntFits s) : rxEnableNow s = .next (hunting s) := by
  rw [rxEnableNow, if_neg (ne_true_of_eq_false ho), enterHunt_of_huntFits h]

theorem rxEnableNow_of_not_huntFits (ho : overrun s = false) (h : ¬huntFits s) : rxEnableNow s = .refused .intervalTooLong := by
  rw [rxEnableNow, if_neg (ne_true_of_eq_false ho), enterHunt_of_not_huntFits h]

/-! ### The end of a transmitted frame (rules R150, R151) -/

/-- The frame's end in phase `DATA` goes before everything else. -/
theorem step_txEnd (hr : s.refused = false) (hl : s.locus = .tx .data) (hd : s.dl.txend = some s.sysTime) :
    step s = endTx s := by
  have hq : due s = some .txEnd := by simp [due, hl, dueAt_iff.2 hd]
  exact step_of_due hr hq

/-- The frame is out: `TXFRS` is set and its deadline gone (rule R150). -/
def frameSent (s : State) : State := { setEvent .txfrs s with dl.txend := none }

/-- What follows a frame: the receiver in the same step, automatic sleep, or idle (rules R150, R151). -/
theorem endTx_eq (s : State) : endTx s =
    if s.txW4r then rxEnableNow { frameSent s with txW4r := false }
    else if atxSlpOf s.aonCfg && sleepEnOf s.aonCfg then .next (sleepEntry (deepOf s.aonCfg) (frameSent s))
    else .next { frameSent s with locus := .idlePll } := rfl

theorem endTx_of_w4r (hw : s.txW4r = true) : endTx s = rxEnableNow { frameSent s with txW4r := false } := by
  rw [endTx_eq, if_pos hw]

theorem endTx_of_autoSleep (hw : s.txW4r = false) (ha : atxSlpOf s.aonCfg = true) (he : sleepEnOf s.aonCfg = true) :
    endTx s = .next (sleepEntry (deepOf s.aonCfg) (frameSent s)) := by
  rw [endTx_eq, if_neg (ne_true_of_eq_false hw), if_pos (Bool.and_eq_true_iff.2 ⟨ha, he⟩)]

theorem endTx_of_idle (hw : s.txW4r = false) (h : atxSlpOf s.aonCfg = false ∨ sleepEnOf s.aonCfg = false) :
    endTx s = .next { frameSent s with locus := .idlePll } := by
  rw [endTx_eq, if_neg (ne_true_of_eq_false hw), if_neg (ne_true_of_eq_false (Bool.and_eq_false_iff.2 h))]

end Sys2Proof.Machine
end

section
/-! SUPPORT. What wakes a sleeping block (rules R130, R131, R265). -/

namespace Sys2Proof.Machine

variable {s t : State}

/-- `Wake` sets `WOKE` alone and keeps the always-on part (rule R131). -/
theorem wake_eq_woken (s : State) : wake s = woken s := by
  simp only [wake, woken, setEvent, blockReset]
  rfl

theorem pinWake_of_awake (h : asleep s = false) : pinWake s = s := by
  simp [pinWake, h]

theorem pinCs_of_awake (h : asleep s = false) : pinCs s = s := by
  simp [pinCs, h]

theorem pinWake_of_asleep (h : asleep s = true) : pinWake s = if s.aonCfg.getLsbD 2 then woken s else s := by
  simp only [pinWake, h, Bool.true_and, wake_eq_woken, wakePinOf]

theorem pinCs_of_asleep (h : asleep s = true) : pinCs s = if s.aonCfg.getLsbD 3 then woken s else s := by
  simp only [pinCs, h, Bool.true_and, wake_eq_woken, wakeCsOf]

theorem counterDue_iff : counterDue s = true ↔
    s.aonCfg.getLsbD 7 = true ∧ s.sleepCnt ≠ 0 ∧ s.aonElapsed = s.sleepCnt.toNat * Config.lpUnit := by
  simp [counterDue, wakeCntOf, and_assoc]

/-- Asleep, only the counter can be due, and only in `SLEEP` (rule R130). -/
theorem counterDue_of_due (ha : asleep s = true) (hd : due s ≠ none) : s.locus = .sleep ∧ counterDue s = true := by
  cases hl : s.locus with
  | sleep => simpa [due, hl] using hd
  | deepSleep => simp [due, hl] at hd
  | init | idleRc | idlePll | tx p | rx p => simp [asleep, hl] at ha

theorem due_of_counterDue (hl : s.locus = .sleep) (h : counterDue s = true) : due s = some .counterWake := by
  simp [due, hl, h]

/-- `Air` has steps in `TX` and `RX` only (rule R185). -/
theorem AirEffect.active (h : AirEffect s t) : active s = true := by
  cases h with
  | ccaBusy hl | preamble hl | sfd hl | phr hl | good _ _ _ hl | errorEnd _ _ hl | errorHunt _ _ hl => simp [Machine.active, hl]

/-- `Cal` has steps only while a calibration runs (rule R221). -/
theorem CalEffect.calibrating (h : CalEffect s t) : s.calfsm ≠ .none := by
  cases h with
  | locked cc hc => simp [hc]
  | onward c p hu hc => exact hc.ne_none
  | ended code thr cal hu hc => exact hc

theorem asleep_of_active (h : active s = true) : asleep s = false := by
  cases hl : s.locus with
  | init | idleRc | idlePll | tx p | rx p => simp [asleep, hl]
  | sleep | deepSleep => simp [active, hl] at h

theorem asleep_tick (s : State) : asleep (tick s) = asleep s := by
  unfold tick
  split <;> rfl

/-- Asleep, of all the outside steps only an enabled pin and `HardReset` wake the block (rule R130). -/
theorem ActionEffect.wakes {a : Action} (hs : SeqInv s) (ha : asleep s = true) (h : ActionEffect s a t) :
    asleep t = true ∨ a = .hardReset ∨ (a = .wakePin ∧ s.aonCfg.getLsbD 2 = true) ∨
      (a = .wakeCs ∧ s.aonCfg.getLsbD 3 = true) := by
  cases h with
  | port _ _ hk | sensor _ hk => exact absurd ha (ne_true_of_eq_false hk)
  | wakePin =>
    rw [pinWake_of_asleep ha]
    split
    · next hb => exact .inr (.inr (.inl ⟨rfl, hb⟩))
    · exact .inl ha
  | wakeCs =>
    rw [pinCs_of_asleep ha]
    split
    · next hb => exact .inr (.inr (.inr ⟨rfl, hb⟩))
    · exact .inl ha
  | hardReset => exact .inr (.inl rfl)
  | tick => exact .inl ((asleep_tick s).trans ha)
  | cal d h =>
    obtain ⟨hl | hl, -⟩ := hs.calibrating h.calibrating
    · simp [asleep, hl] at ha
    · simp [asleep, hl] at ha
  | air e h => exact absurd ha (ne_true_of_eq_false (asleep_of_active h.active))

/-- Asleep, every step that wakes the block is the due counter, an enabled pin or `HardReset` (rules R130, R265). -/
theorem wakes_of_step (hs : SeqInv s) (ha : asleep s = true) (h : step s = .next t) :
    asleep t = true ∨ (s.locus = .sleep ∧ counterDue s = true) ∨
      (due s = none ∧ (nextAction s = .hardReset ∨ (nextAction s = .wakePin ∧ s.aonCfg.getLsbD 2 = true) ∨
        (nextAction s = .wakeCs ∧ s.aonCfg.getLsbD 3 = true))) := by
  obtain ⟨hd, -⟩ | ⟨hd, l, k, h⟩ := step_effect h
  · exact .inr (.inl (counterDue_of_due ha hd))
  · rcases h.wakes (s := { s with agenda := l, draws := k }) hs.congr ha with hk | hw
    · exact .inl hk
    · exact .inr (.inr ⟨hd, hw⟩)

end Sys2Proof.Machine
end

section
/-! The obligations of spec/41_state_commands.md: the transitions of `OPSTATE`, `TRXOFF`, `SLEEP`, the end of a
transmitted frame, and waking. -/

namespace Sys2Proof.Proofs.StateCommands

open Sys2Proof.Machine

/-- Settles O59: each effect a step can have leads to an operating state of the table. -/
theorem opstateTransitions : Obligations.opstate_transitions := by
  intro s t hs h
  obtain ⟨-, h⟩ | ⟨-, l, k, h⟩ := step_effect h
  · exact h.opstateGoes
  · exact h.opstateGoes (s := { s with agenda := l, draws := k }) hs.congr

/-- Settles O27: the command's body forces the transceiver off, which changes nothing when it is off already. -/
theorem trxoffCompletes : Obligations.trxoff_completes := by
  intro s hr ha
  obtain ⟨hr', ha'⟩ := transceiverOff_admits hr ha
  refine ⟨transceiverOff s, ?_, exec_trxoff_admitted hr ha, ?_⟩
  · rw [transceiverOff, forceOff_eq]
  · rw [exec_trxoff_admitted hr' ha', transceiverOff_idem]

/-- Settles O29: the command's body reports success and enters sleep. -/
theorem sleepCompletes : Obligations.sleep_completes := by
  intro s deep hr ha
  rw [exec_sleep_admitted hr ha, setResult_after_clear]
  rfl

/-- Settles O39: the end of the frame is due, and what follows is decided by `tx_w4r`, then by the automatic sleep. -/
theorem txEnd : Obligations.tx_end := by
  rintro s b hr hl hd rfl
  rw [step_txEnd hr hl hd]
  refine ⟨fun hw ho => ?_, fun hw ho hf => ?_, fun hw ho hf => ?_, fun hw ha he => ?_, fun hw h => ?_⟩
  · exact (endTx_of_w4r hw).trans (rxEnableNow_of_overrun ho)
  · exact (endTx_of_w4r hw).trans (rxEnableNow_of_huntFits ho hf)
  · exact (endTx_of_w4r hw).trans (rxEnableNow_of_not_huntFits ho hf)
  · exact endTx_of_autoSleep hw ha he
  · exact endTx_of_idle hw h

/-- Settles O53: the pins and the counter run `Wake` where they are enabled, and every other step leaves a sleeping block asleep. -/
theorem wakeTriggers : Obligations.wake_triggers := by
  refine ⟨fun s rest hr ha hd => ⟨fun hg => ?_, fun hg => ?_⟩, fun s hr hl he h0 ht => ?_, fun s rest hr hd hg => ?_,
    fun s t hs ha h => ?_, fun s ha => ?_⟩
  · rw [step_of_agenda hr hd hg]
    exact congrArg _ (pinWake_of_asleep (s := { s with agenda := rest }) ha)
  · rw [step_of_agenda hr hd hg]
    exact congrArg _ (pinCs_of_asleep (s := { s with agenda := rest }) ha)
  · rw [step_of_due hr (due_of_counterDue hl (counterDue_iff.2 ⟨he, h0, ht⟩)), fire, wake_eq_woken]
  · rw [step_of_agenda hr hd hg]
    rfl
  · simpa only [counterDue_iff] using wakes_of_step hs ha h
  · rw [perform, perform, pinWake_of_awake ha, pinCs_of_awake ha]
    exact ⟨rfl, rfl⟩

end Sys2Proof.Proofs.StateCommands
end

section
/-! SUPPORT. `TX` and `RX` admitted: the body that runs, and what each of its branches leaves (rules R141 to R145, R152, R161, R164). -/

namespace Sys2Proof.Machine

variable {s : State} {start : Start} {w4r cca k : Bool}

/-! ### Events set by a command's body -/

/-- An event set after a command's start is set before it, unless it is `CMDDONE` itself. -/
theorem setEvent_clearEvent_cmddone {e : Event} (he : e ≠ .cmddone) (s : State) :
    setEvent e (clearEvent .cmddone s) = clearEvent .cmddone (setEvent e s) := by
  have hm : eventMask e &&& ~~~eventMask .cmddone = eventMask e := by
    cases e with
    | cmddone => exact absurd rfl he
    | _ => rfl
  simp only [setEvent, clearEvent, BitVec.and_or_distrib_right, hm]

/-- A command that fails on one event (rules R145, R164, R179). -/
theorem setResult_error_event {e : Event} (he : e ≠ .cmddone) (s : State) :
    setResult .error (setEvent e (clearEvent .cmddone s)) =
      { s with sysStatus := s.sysStatus ||| (eventMask e ||| 0x00100000), cmdResult := 0xFF } := by
  rw [setEvent_clearEvent_cmddone he, setResult_after_clear, setEvent_sysStatus, BitVec.or_assoc]
  rfl

/-! ### Delayed starts (rules R142 to R144) -/

/-- The reference of each of the four delayed modes (rule R142). -/
theorem refTime_of_mode {ref : Time} (h : (start = .dlyAbs ∧ ref = 0) ∨ (start = .dlyRef ∧ ref = s.drefTime) ∨
    (start = .dlyRs ∧ ref = s.rxStampLast) ∨ (start = .dlyTs ∧ ref = s.txStamp)) : refTime start s = ref ∧ start ≠ .imm := by
  obtain ⟨rfl, rfl⟩ | ⟨rfl, rfl⟩ | ⟨rfl, rfl⟩ | ⟨rfl, rfl⟩ := h <;> exact ⟨rfl, by decide⟩

theorem late_eq_false {S now : Time} (h : (S - now).toNat < 2 ^ 39) : late S now = false :=
  eq_false_of_ne_true fun hl => absurd ((late_iff S now).1 hl) (Nat.not_le.2 h)

/-- A start at this very moment is not late (rule R144). -/
theorem late_self (now : Time) : late now now = false :=
  late_eq_false (by simp)

/-! ### `TX` -/

/-- An admitted `TX` runs its body (rules R140, R141). -/
theorem exec_tx_admitted (hr : CommandReady s) (ha : admitted (.tx start w4r cca) s = true) :
    exec (.tx start w4r cca) s =
      if start = .imm then startTxNow cca { commandStart s with txW4r := w4r }
      else .next (startTxDelayed start w4r (commandStart s)) := by
  obtain ⟨hp, hc, hu⟩ := hr
  simp only [admitted, Bool.and_eq_true, Bool.not_eq_true'] at ha
  obtain ⟨hargs, ⟨⟨⟨hb, hl⟩, hpre⟩, htoc⟩, hcal⟩ := ha
  have hm : txExtra w4r cca (commandStart s) = true := by
    change (preambleValid (preLenOf s.saved.phyCfg) && (!cca || s.saved.preToc != 0) &&
      (!w4r || (s.cal.pgfDone && s.cal.adcDone))) = true
    rw [hpre, htoc, hcal]
    rfl
  have hx : exec (.tx start w4r cca) s = execTx start w4r cca s := rfl
  rw [hx, execTx, command_runs hp hc (.inl hu) hargs (.inl hb) hl hm]

/-- What every accepted `TX` leaves: success, and `W4R` kept for the frame's end (rule R141). -/
def txAccepted (w4r : Bool) (s : State) : State :=
  { s with response := [], sysStatus := s.sysStatus ||| 0x00100000, cmdResult := 0x00, txW4r := w4r }

/-- With CCA the clear-channel window opens where its length fits (rules R152, R166). -/
theorem startTxNow_cca_of_lt (h : s.saved.preToc.toNat * Config.pacDtu (cfgOf s) < 2 ^ 39) :
    startTxNow true s = .next (setResult .success { s with
      locus := .tx .cca
      dl.cca := some (s.sysTime + BitVec.ofNat 40 (s.saved.preToc.toNat * Config.pacDtu (cfgOf s))) }) := by
  rw [startTxNow, if_pos rfl, interval_of_lt h]

/-- A window that reaches `2^39` DTU is refused (rule R166; log entry 10). -/
theorem startTxNow_cca_of_ge (h : 2 ^ 39 ≤ s.saved.preToc.toNat * Config.pacDtu (cfgOf s)) :
    startTxNow true s = .refused .intervalTooLong := by
  rw [startTxNow, if_pos rfl, interval_of_ge h]

/-- Success reported on a preamble that begins (rules R85, R141, R147). -/
theorem setResult_enterShr (w4r : Bool) (s : State) :
    setResult .success (enterShr { commandStart s with txW4r := w4r }) = enterShr (txAccepted w4r s) :=
  setResult_after_clear .success (enterShr { s with response := [], txW4r := w4r })

/-- Without CCA an admitted immediate `TX` begins its preamble (rules R141, R147). -/
theorem exec_tx_imm (hr : CommandReady s) (ha : admitted (.tx .imm w4r false) s = true) :
    exec (.tx .imm w4r false) s = .next (enterShr (txAccepted w4r s)) := by
  have hb (u : State) : startTxNow false u = .next (setResult .success (enterShr u)) := rfl
  rw [exec_tx_admitted hr ha, if_pos rfl, hb, setResult_enterShr]

/-- With CCA an admitted immediate `TX` opens the clear-channel window (rule R152). -/
theorem exec_tx_cca (hr : CommandReady s) (ha : admitted (.tx .imm w4r true) s = true)
    (h : s.saved.preToc.toNat * Config.pacDtu (cfgOf s) < 2 ^ 39) :
    exec (.tx .imm w4r true) s = .next { txAccepted w4r s with
      locus := .tx .cca
      dl.cca := some (s.sysTime + BitVec.ofNat 40 (s.saved.preToc.toNat * Config.pacDtu (cfgOf s))) } := by
  rw [exec_tx_admitted hr ha, if_pos rfl, startTxNow_cca_of_lt (s := { commandStart s with txW4r := w4r }) h]
  exact congrArg Host.Outcome.next (setResult_after_clear .success { s with
    response := [], txW4r := w4r, locus := .tx .cca
    dl.cca := some (s.sysTime + BitVec.ofNat 40 (s.saved.preToc.toNat * Config.pacDtu (cfgOf s))) })

/-- An admitted delayed `TX` whose preamble is too late to begin fails (rule R145). -/
theorem exec_tx_late (hr : CommandReady s) (ha : admitted (.tx start w4r false) s = true) (hs : start ≠ .imm)
    (hl : late (txStartTime start s) s.sysTime = true) :
    exec (.tx start w4r false) s = .next { s with
      response := [], sysStatus := s.sysStatus ||| 0x00108000, cmdResult := 0xFF } := by
  have hb : startTxDelayed start w4r (commandStart s) = setResult .error (setEvent .dlylate (commandStart s)) := if_pos hl
  rw [exec_tx_admitted hr ha, if_neg hs, hb, setResult_error_event (by decide)]
  rfl

/-- An admitted delayed `TX` whose preamble begins at this moment begins it (rules R141, R147). -/
theorem exec_tx_now (hr : CommandReady s) (ha : admitted (.tx start w4r false) s = true) (hs : start ≠ .imm)
    (hn : txStartTime start s = s.sysTime) :
    exec (.tx start w4r false) s = .next (enterShr (txAccepted w4r s)) := by
  have hl : ¬late (txStartTime start s) s.sysTime = true := by
    rw [hn, late_self]
    decide
  have hb : startTxDelayed start w4r (commandStart s) = setResult .success (enterShr { commandStart s with txW4r := w4r }) :=
    (if_neg hl).trans (if_pos hn)
  rw [exec_tx_admitted hr ha, if_neg hs, hb, setResult_enterShr]

/-- An admitted delayed `TX` whose preamble begins later is armed for that moment (rules R141, R146). -/
theorem exec_tx_armed (hr : CommandReady s) (ha : admitted (.tx start w4r false) s = true) (hs : start ≠ .imm)
    (hl : late (txStartTime start s) s.sysTime = false) (hn : txStartTime start s ≠ s.sysTime) :
    exec (.tx start w4r false) s =
      .next { txAccepted w4r s with locus := .tx .wait, dl.start := some (txStartTime start s) } := by
  have hb : startTxDelayed start w4r (commandStart s) = setResult .success
      { commandStart s with txW4r := w4r, locus := .tx .wait, dl.start := some (txStartTime start s) } :=
    (if_neg (ne_true_of_eq_false hl)).trans (if_neg hn)
  rw [exec_tx_admitted hr ha, if_neg hs, hb]
  exact congrArg Host.Outcome.next (setResult_after_clear .success
    { s with response := [], txW4r := w4r, locus := .tx .wait, dl.start := some (txStartTime start s) })

/-! ### `RX` delayed -/

/-- An admitted delayed `RX` runs its body (rules R160, R161). -/
theorem exec_rx_delayed_admitted (hr : CommandReady s) (ha : admitted (.rx start k) s = true) (hs : start ≠ .imm) :
    exec (.rx start k) s = startRxDelayed start k (commandStart s) := by
  obtain ⟨hp, hc, hu⟩ := hr
  simp only [admitted, Bool.and_eq_true, Bool.not_eq_true'] at ha
  obtain ⟨hargs, ⟨⟨⟨hb, hl⟩, hpre⟩, hpgf⟩, hadc⟩ := ha
  have hm : rxExtra (commandStart s) = true := by
    change (preambleValid (preLenOf s.saved.phyCfg) && s.cal.pgfDone && s.cal.adcDone) = true
    rw [hpre, hpgf, hadc]
    rfl
  have hx : exec (.rx start k) s = execRx start k s := rfl
  rw [hx, execRx, command_runs hp hc (.inl hu) hargs (.inl hb) hl hm, if_neg hs]

/-- Late, with `IDLE_ON_DLY_ERR`: the receiver stays off (rule R164). -/
theorem startRxDelayed_late_idle (hl : late (targetTime start s) s.sysTime = true) :
    startRxDelayed start true s = .next (setResult .error (setEvent .dlylate s)) := by
  rw [startRxDelayed, if_pos hl, if_pos rfl]

/-- Late, without `IDLE_ON_DLY_ERR`: the receiver is enabled at once (rules R164, R165). -/
theorem startRxDelayed_late (hl : late (targetTime start s) s.sysTime = true) :
    startRxDelayed start false s = andThen (rxEnableNow (setEvent .dlylate s)) fun s => .next (setResult .error s) := by
  rw [startRxDelayed, if_pos hl, if_neg Bool.false_ne_true]

/-- Not late, over a full buffer (rules R161, R179). -/
theorem startRxDelayed_overrun (hl : late (targetTime start s) s.sysTime = false) (ho : overrun s = true) :
    startRxDelayed start k s = .next (setResult .error (setEvent .rxovrr s)) := by
  rw [startRxDelayed, if_neg (ne_true_of_eq_false hl), if_pos ho]

/-- At its target, the receiver turns on (rule R161). -/
theorem startRxDelayed_now (hn : targetTime start s = s.sysTime) (ho : overrun s = false) :
    startRxDelayed start k s = andThen (enterHunt s) fun s => .next (setResult .success s) := by
  rw [startRxDelayed, hn, late_self, if_neg Bool.false_ne_true, if_neg (ne_true_of_eq_false ho), if_pos rfl]

/-- Ahead of its target, the reception is armed (rule R161). -/
theorem startRxDelayed_armed (hl : late (targetTime start s) s.sysTime = false) (ho : overrun s = false)
    (hn : targetTime start s ≠ s.sysTime) :
    startRxDelayed start k s =
      .next (setResult .success { s with locus := .rx .wait, dl.start := some (targetTime start s) }) := by
  rw [startRxDelayed, if_neg (ne_true_of_eq_false hl), if_neg (ne_true_of_eq_false ho), if_neg hn]

/-- A result reported with the receiver on is reported before it turns on. -/
theorem setResult_hunting (c : ResultCode) (s : State) : setResult c (hunting s) = hunting (setResult c s) := rfl

/-- A late reception over a full buffer reports both events (rules R164, R165, R179). -/
theorem setResult_late_overrun (s : State) :
    setResult .error (rxOverrun (setEvent .dlylate (clearEvent .cmddone s))) =
      { s with sysStatus := s.sysStatus ||| 0x00128000, cmdResult := 0xFF, locus := .idlePll } := by
  have hx : rxOverrun (setEvent .dlylate (clearEvent .cmddone s)) =
      setEvent .rxovrr (setEvent .dlylate (clearEvent .cmddone { s with locus := .idlePll })) := rfl
  rw [hx, setEvent_clearEvent_cmddone (by decide), setResult_error_event (by decide), setEvent_sysStatus, BitVec.or_assoc]
  rfl

end Sys2Proof.Machine
end

section
/-! SUPPORT. The deadlines of a transmission, and the clock running up to one of them (rules R44, R146, R147, R149, R152, R265). -/

namespace Sys2Proof.Machine

variable {s t u : State} {q : SeqStep} {D : Time}

/-! ### Deadlines of a transmission -/

/-- A transmission that takes the `Seq` transition `q` at the time `D`: the three phases before the frame's data. -/
inductive TxAwaits (s : State) (D : Time) : SeqStep → Prop
  | start (hl : s.locus = .tx .wait) (hd : s.dl.start = some D) : TxAwaits s D .startTx
  | window (hl : s.locus = .tx .cca) (hd : s.dl.cca = some D) : TxAwaits s D .ccaClear
  | rmark (hl : s.locus = .tx .shr) (hd : s.dl.rmark = some D) : TxAwaits s D .rmarker

/-- The transition is due at its time and nothing is due at any other (rule R265). -/
theorem TxAwaits.due_eq (h : TxAwaits s D q) : due s = if D = s.sysTime then some q else none := by
  cases h with
  | start hl hd | window hl hd | rmark hl hd => simp [due, hl, dueAt, hd]

theorem TxAwaits.awake (h : TxAwaits s D q) : asleep s = false := by
  cases h with
  | start hl | window hl | rmark hl => simp [asleep, hl]

theorem TxAwaits.congr (h : TxAwaits s D q) (hl : t.locus = s.locus := by rfl) (hd : t.dl = s.dl := by rfl) : TxAwaits t D q := by
  cases h with
  | start hl' hd' => exact .start (hl.trans hl') (by rw [hd, hd'])
  | window hl' hd' => exact .window (hl.trans hl') (by rw [hd, hd'])
  | rmark hl' hd' => exact .rmark (hl.trans hl') (by rw [hd, hd'])

/-- At its time, the transition is the step. -/
theorem TxAwaits.step_eq (h : TxAwaits s s.sysTime q) (hr : s.refused = false) : step s = fire q s :=
  step_of_due hr (h.due_eq.trans (if_pos rfl))

/-! ### Runs -/

/-- A run that goes on from where a run came to. -/
theorem run_add {M : Host.Core} {s t : M.State} {m n : Nat} (h : M.run m s = .next t) : M.run (m + n) s = M.run n t := by
  induction m generalizing s with
  | zero =>
    cases h
    rw [Nat.zero_add]
  | succ m ih =>
    rw [Nat.succ_add]
    cases hs : M.step s with
    | next u =>
      simp only [Host.Core.run, hs] at h ⊢
      exact ih h
    | fault e | refused e => simp [Host.Core.run, hs] at h

theorem run_one {M : Host.Core} {s t : M.State} (h : M.step s = .next t) : M.run 1 s = .next t := by
  rw [Host.Core.run, h]
  rfl

/-- The state `k` ticks later, at time `D` (rule R44), with what is left of the agenda. -/
def waited (D : Time) (k : Nat) (rest : List Action) (s : State) : State :=
  { s with sysTime := D, aonElapsed := s.aonElapsed + k, agenda := rest }

/-- The clock runs, tick by tick, up to the time a transmission awaits (rules R44, R265). -/
theorem TxAwaits.run_ticks {k : Nat} {rest : List Action} (h : TxAwaits s D q) (hr : s.refused = false)
    (hk : (D - s.sysTime).toNat = k) (ha : s.agenda = List.replicate k .tick ++ rest) :
    Host.Core.run core k s = .next (waited D k rest s) := by
  induction k generalizing s with
  | zero =>
    have hD : D = s.sysTime := by
      apply BitVec.eq_of_toNat_eq
      rw [BitVec.toNat_sub] at hk
      omega
    have hrest : s.agenda = rest := ha
    rw [hD, ← hrest]
    rfl
  | succ k ih =>
    have hne : D ≠ s.sysTime := by
      rintro rfl
      simp at hk
    have hd : due s = none := h.due_eq.trans (if_neg hne)
    have hstep : step s = .next (waited (s.sysTime + 1) 1 (List.replicate k .tick ++ rest) s) := by
      rw [step_of_agenda hr hd ha]
      exact congrArg Host.Outcome.next (if_neg (ne_true_of_eq_false h.awake))
    have hk' : (D - (s.sysTime + 1)).toNat = k := by
      have h1 : (1 : Time).toNat = 1 := rfl
      rw [BitVec.toNat_sub] at hk ⊢
      rw [BitVec.toNat_add, h1]
      omega
    rw [Nat.add_comm, run_add (run_one (M := core) hstep), ih (s := waited _ 1 _ s) h.congr hr hk' rfl]
    simp only [waited, Nat.add_assoc]

/-- The clock runs up to the awaited time, and the transition is taken there. -/
theorem TxAwaits.run_fire {k : Nat} {rest : List Action} (h : TxAwaits s D q) (hr : s.refused = false)
    (hk : (D - s.sysTime).toNat = k) (ha : s.agenda = List.replicate k .tick ++ rest)
    (hf : fire q (waited D k rest s) = .next u) : Host.Core.run core (k + 1) s = .next u := by
  have hw : TxAwaits (waited D k rest s) D q := h.congr
  rw [run_add (h.run_ticks hr hk ha), run_one (M := core) ((hw.step_eq hr).trans hf)]

/-- From the preamble's begin, `SHR_DTU` ticks lead to the RMARKER (rules R147, R149). -/
theorem run_enterShr {T : Time} {rest : List Action} (hr : s.refused = false)
    (ha : s.agenda = List.replicate (Config.shrDtu (cfgOf s)).toNat .tick ++ rest)
    (hT : T = s.sysTime + (Config.shrDtu (cfgOf s)).setWidth 40) :
    Host.Core.run core ((Config.shrDtu (cfgOf s)).toNat + 1) (enterShr s) =
      .next (rmarker (waited T (Config.shrDtu (cfgOf s)).toNat rest (enterShr s))) := by
  have h : TxAwaits (enterShr s) T .rmarker := .rmark rfl (congrArg some hT.symm)
  refine h.run_fire hr ?_ ha rfl
  rw [hT, enterShr_sysTime, BitVec.add_comm, BitVec.add_sub_cancel, BitVec.toNat_setWidth_of_le (by decide)]

end Sys2Proof.Machine
end

section
/-! SUPPORT. Air events: the phases in which they are admitted, and what those that go on do (rules R152, R166 to R171, R185). -/

namespace Sys2Proof.Machine

variable {s : State} {f : Fault}

/-! ### An admitted event is never a fault (rule R185) -/

theorem enterHunt_ne_fault : enterHunt s ≠ .fault f := by
  unfold enterHunt
  split <;> nofun

theorem rxEnableNow_ne_fault : rxEnableNow s ≠ .fault f := by
  unfold rxEnableNow
  split
  · nofun
  · exact enterHunt_ne_fault

theorem rxError_ne_fault : rxError s ≠ .fault f := by
  simp only [rxError]
  split
  · exact enterHunt_ne_fault
  · nofun

theorem rxGood_ne_fault {len : BitVec 10} {rng : Bool} {m : Meas} : rxGood len rng m s ≠ .fault f := by
  simp only [rxGood]
  split
  · nofun
  · split
    · nofun
    · split
      · exact rxEnableNow_ne_fault
      · nofun

theorem frameEnd_ne_fault {kind : FrameKind} {len : BitVec 10} {rng : Bool} {m : Meas} :
    frameEnd kind len rng m s ≠ .fault f := by
  cases kind with
  | good => exact rxGood_ne_fault
  | crcErr | rsErr => exact rxError_ne_fault

theorem preambleFound_ne_fault : preambleFound s ≠ .fault f := by
  unfold preambleFound
  split <;> nofun

/-- The phases of `airAdmitted` are those in which `airStep` has a step. -/
theorem airStep_fault_iff (e : AirEvent) (s : State) : airStep e s = .fault .airNotAdmitted ↔ airAdmitted e s = false := by
  unfold airStep
  split
  · next hl => simp [airAdmitted, hl]
  · next hl =>
    split
    · next hn => simp [airAdmitted, hl, hn, preambleFound_ne_fault]
    · next hn => simpa [airAdmitted, hl] using hn
  · next hl => simp [airAdmitted, hl]
  · next ok hl =>
    split
    · next hp => simp [airAdmitted, hp]
    · next hp =>
      have hp : s.phrOk = false := by simpa using hp
      cases ok <;> simp [airAdmitted, hl, hp, rxError_ne_fault]
  · next hl =>
    split
    · next hp => simp [airAdmitted, hl, hp, frameEnd_ne_fault]
    · next hp => simpa [airAdmitted, hl] using hp
  · next hl => simp [airAdmitted, hl, rxError_ne_fault]
  · next hl => simp [airAdmitted, hl, rxError_ne_fault]
  · next e _ _ hcca hhunt hsfd hphr hend hsync hdata =>
    refine iff_of_true rfl ?_
    cases e with
    | preambleDetect => simpa [airAdmitted] using ⟨hcca rfl, fun h => (hhunt rfl h).elim⟩
    | sfdDetect => simpa [airAdmitted] using hsfd rfl
    | phrResult ok => simpa [airAdmitted] using fun h => (hphr ok rfl h).elim
    | frameEnd kind len rng m => simpa [airAdmitted] using fun h => (hend kind len rng m rfl h).elim
    | syncLoss => simpa [airAdmitted] using ⟨hsync rfl, hdata rfl⟩

/-! ### Events that go on -/

theorem airStep_preamble_cca (hl : s.locus = .tx .cca) : airStep .preambleDetect s = .next (ccaBusy s) := by
  simp only [airStep, hl]

theorem airStep_preamble_hunt (hl : s.locus = .rx .hunt) (hn : s.sniffOn = true) :
    airStep .preambleDetect s = preambleFound s := by
  simp only [airStep, hl, hn, if_true]

theorem airStep_sfd (hl : s.locus = .rx .sfdWait) : airStep .sfdDetect s = .next (sfdFound s) := by
  simp only [airStep, hl]

theorem airStep_phr_good (hl : s.locus = .rx .data) (hp : s.phrOk = false) :
    airStep (.phrResult true) s = .next { setEvent .rxphd s with phrOk := true } := by
  simp only [airStep, hl, hp, Bool.false_eq_true, if_false, if_true]

/-- A preamble arms the SFD timeout where its product fits (rules R166, R167). -/
theorem preambleFound_of_lt (h : s.saved.sfdToc.toNat * Config.symDtu (cfgOf s) < 2 ^ 39) :
    preambleFound s = .next { setEvent .rxprd s with
      dl := { s.dl with
        pre := none, sniff := none, sfd := timeoutFrom s.sysTime s.saved.sfdToc.toNat (Config.symDtu (cfgOf s)) }
      sniffOn := true, locus := .rx .sfdWait } := by
  rw [preambleFound, deadlineAfter_of_lt h]

theorem preambleFound_of_ge (h : 2 ^ 39 ≤ s.saved.sfdToc.toNat * Config.symDtu (cfgOf s)) :
    preambleFound s = .refused .intervalTooLong := by
  rw [preambleFound, deadlineAfter_of_ge h]

end Sys2Proof.Machine
end

section
/-! The obligations of spec/42_tx_sequencer.md: immediate and delayed transmissions and receptions, the steps of a transmission and
its time stamp, and the air events. -/

namespace Sys2Proof.Proofs.TxSequencer

open Sys2Proof.Machine

/-- Settles O35: the body of an admitted `TX IMM`, without CCA and with it. -/
theorem txImmediate : Obligations.tx_immediate := fun s w4r hr =>
  ⟨exec_tx_imm hr, exec_tx_cca hr, fun ha h => by
    rw [exec_tx_admitted hr ha, if_pos rfl, startTxNow_cca_of_ge (s := { commandStart s with txW4r := w4r }) h]⟩

/-- Settles O36: the three branches of a delayed transmission, by the time its preamble must begin. -/
theorem txDelayed : Obligations.tx_delayed := by
  intro s start w4r ref S hr ha hmode hS
  obtain ⟨hre, hs⟩ := refTime_of_mode hmode
  have hS : txStartTime start s = S := by rw [hS, txStartTime, targetTime, hre]
  refine ⟨fun hl => ?_, fun hn => ?_, fun hn hl => ?_⟩
  · exact exec_tx_late hr ha hs (by rwa [hS, late_iff])
  · exact exec_tx_now hr ha hs (hS.trans hn)
  · subst hS
    exact exec_tx_armed hr ha hs (late_eq_false hl) hn

/-- Settles O38: in each phase the deadline's transition is the one due. -/
theorem txSteps : Obligations.tx_steps := fun _ hr =>
  ⟨fun hl hd => (TxAwaits.start hl hd).step_eq hr, fun hl hd => (TxAwaits.window hl hd).step_eq hr,
    fun hl hd => (TxAwaits.rmark hl hd).step_eq hr⟩

/-- Settles O40: the ticks run the clock up to the armed start, where there is one, and from there up to the RMARKER. -/
theorem delayedTxTimestamp : Obligations.delayed_tx_timestamp := by
  intro s t start w4r T S rest hr hc ha hs hT hS hlt hag he
  have hstart : txStartTime start s = S := by rw [hS, hT, txStartTime, targetTime]
  have hmark : T = S + (Config.shrDtu (cfgOf s)).setWidth 40 := by rw [hS, BitVec.sub_add_cancel]
  by_cases hn : S = s.sysTime
  · rw [exec_tx_now hc ha hs (hstart.trans hn)] at he
    cases he
    have hshr : s.agenda = List.replicate (Config.shrDtu (cfgOf s)).toNat .tick ++ rest := by simpa [hn] using hag
    exact ⟨_, _, run_enterShr (s := txAccepted w4r s) hr hshr (hn ▸ hmark), rfl, rfl, rfl, rfl, rfl⟩
  · rw [exec_tx_armed hc ha hs (hstart ▸ late_eq_false hlt) (hstart ▸ hn), hstart] at he
    cases he
    rw [List.replicate_add, List.append_assoc] at hag
    have harmed : TxAwaits { txAccepted w4r s with locus := .tx .wait, dl.start := some S } S .startTx := .start rfl rfl
    have hwait := harmed.run_fire hr rfl hag rfl
    have hsend := run_enterShr
      (s := { waited S (S - s.sysTime).toNat (List.replicate (Config.shrDtu (cfgOf s)).toNat .tick ++ rest)
        { txAccepted w4r s with locus := .tx .wait, dl.start := some S } with dl.start := none }) hr rfl hmark
    exact ⟨_, _, (run_add hwait).trans hsend, rfl, rfl, rfl, rfl, rfl⟩

/-- Settles O42: the branches of a delayed reception, lateness before overrun, and the receiver turned on where the intervals fit. -/
theorem rxDelayed : Obligations.rx_delayed := by
  intro s start k ref T hr ha hmode hT
  obtain ⟨hre, hs⟩ := refTime_of_mode hmode
  have hT : targetTime start (commandStart s) = T := by rw [hT, ← hre]; rfl
  subst hT
  rw [exec_rx_delayed_admitted hr ha hs]
  refine ⟨fun hl hk => ?_, fun hl hk ho => ?_, fun hl hk ho hf => ?_, fun hl hk ho hf => ?_, fun hl ho => ?_,
    fun hn ho hf => ?_, fun hn ho hf => ?_, fun hn hl ho => ?_⟩
  · rw [hk, startRxDelayed_late_idle ((late_iff _ _).2 hl), setResult_error_event (by decide)]
    rfl
  · rw [hk, startRxDelayed_late ((late_iff _ _).2 hl), rxEnableNow_of_overrun (s := setEvent .dlylate (commandStart s)) ho]
    exact congrArg Host.Outcome.next (setResult_late_overrun { s with response := [] })
  · rw [hk, startRxDelayed_late ((late_iff _ _).2 hl), rxEnableNow_of_huntFits (s := setEvent .dlylate (commandStart s)) ho hf,
      andThen, setResult_hunting, setResult_error_event (by decide)]
    rfl
  · rw [hk, startRxDelayed_late ((late_iff _ _).2 hl), rxEnableNow_of_not_huntFits (s := setEvent .dlylate (commandStart s)) ho hf]
    rfl
  · rw [startRxDelayed_overrun (late_eq_false hl) ho, setResult_error_event (by decide)]
    rfl
  · rw [startRxDelayed_now hn ho, enterHunt_of_huntFits (s := commandStart s) hf, andThen, setResult_hunting, setResult_after_clear]
    rfl
  · rw [startRxDelayed_now hn ho, enterHunt_of_not_huntFits (s := commandStart s) hf]
    rfl
  · rw [startRxDelayed_armed (late_eq_false hl) ho hn]
    exact congrArg Host.Outcome.next (setResult_after_clear .success
      { s with response := [], locus := .rx .wait, dl.start := some (targetTime start s) })

/-- Settles O44: each event that goes on, in the phase that admits it. -/
theorem airProgress : Obligations.air_progress := fun _ =>
  ⟨airStep_preamble_cca, fun hl hn h => (airStep_preamble_hunt hl hn).trans (preambleFound_of_lt h),
    fun hl hn h => (airStep_preamble_hunt hl hn).trans (preambleFound_of_ge h), airStep_sfd, airStep_phr_good⟩

/-- Settles O46: an event that is not admitted is the fault, and an admitted one never is. -/
theorem airOnlyWhereAdmitted : Obligations.air_only_where_admitted := airStep_fault_iff

end Sys2Proof.Proofs.TxSequencer
end

section
/-! SUPPORT. `RX IMM`, and the deadlines of a reception: which is due, and what each does (rules R161, R163, R166, R172, R173, R177,
R265). -/

namespace Sys2Proof.Machine

variable {s : State} {k : Bool} {p : RxPhase}

/-! ### `RX IMM` -/

/-- An admitted immediate `RX` runs its body (rules R160, R161). -/
theorem exec_rx_imm_admitted (hr : CommandReady s) (ha : admitted (.rx .imm k) s = true) :
    exec (.rx .imm k) s = startRxNow (commandStart s) := by
  obtain ⟨hp, hc, hu⟩ := hr
  simp only [admitted, Bool.and_eq_true, Bool.not_eq_true'] at ha
  obtain ⟨hargs, ⟨⟨⟨hb, hl⟩, hpre⟩, hpgf⟩, hadc⟩ := ha
  have hm : rxExtra (commandStart s) = true := by
    simp only [rxExtra, clearEvent_saved, clearEvent_cal, hpre, hpgf, hadc, Bool.and_self]
  have hx : exec (.rx .imm k) s = execRx .imm k s := rfl
  rw [hx, execRx, command_runs hp hc (.inl hu) hargs (.inl hb) hl hm, if_pos rfl]

/-- Over a full buffer an immediate reception fails and the block stays idle (rules R161, R179). -/
theorem startRxNow_overrun (ho : overrun s = true) : startRxNow s = .next (setResult .error (rxOverrun s)) := by
  rw [startRxNow, if_pos ho]

/-- With room for a frame, an immediate reception turns the receiver on (rules R161, R166). -/
theorem startRxNow_hunt (ho : overrun s = false) :
    startRxNow s = andThen (enterHunt s) fun s => .next (setResult .success s) := by
  rw [startRxNow, if_neg (ne_true_of_eq_false ho)]

/-! ### Which deadline is due (rules R173, R265) -/

/-- The timeouts that a phase of the receiver admits (rule R173). -/
theorem timeoutDue_eq (hl : s.locus = .rx p) (hp : p ≠ .wait) :
    timeoutDue s = (dueAt s.dl.fwto s || (s.locus == .rx .hunt && dueAt s.dl.pre s) ||
      (s.locus == .rx .sfdWait && dueAt s.dl.sfd s)) := by
  cases p with
  | wait => exact absurd rfl hp
  | hunt | sfdWait | data => simp [timeoutDue, hl, beq_eq_decide]

/-- A timeout that is due goes before everything else (rules R173, R265). -/
theorem step_rxTimeout (hr : s.refused = false) (hl : s.locus = .rx p) (hp : p ≠ .wait) (ht : timeoutDue s = true) :
    step s = .next (rxTimeout s) := by
  have hq : due s = some .rxTimeout := by
    cases p with
    | wait => exact absurd rfl hp
    | hunt | sfdWait | data => simp [due, hl, ht]
  rw [step_of_due hr hq, fire]

/-- An armed reception starts at its time (rule R163). -/
theorem step_startRx (hr : s.refused = false) (hl : s.locus = .rx .wait) (hd : s.dl.start = some s.sysTime) :
    step s = enterHunt { s with dl.start := none } := by
  have hq : due s = some .startRx := by simp [due, hl, dueAt_iff.2 hd]
  rw [step_of_due hr hq, fire, startArmedRx]

/-- A SNIFF switch is the step at its time, unless a timeout is due too (rules R172, R173). -/
theorem step_sniffSwitch (hr : s.refused = false) (hl : s.locus = .rx .hunt) (hd : s.dl.sniff = some s.sysTime)
    (hf : s.dl.fwto ≠ some s.sysTime) (hp : s.dl.pre ≠ some s.sysTime) : step s = sniffSwitch s := by
  have hq : due s = some .sniffSwitch := by simp [due, timeoutDue, hl, dueAt, hd, hf, hp]
  rw [step_of_due hr hq, fire]

/-! ### SNIFF (rule R172) -/

theorem sniffSwitch_off_of_lt (hn : s.sniffOn = true) (h : sniffOffOf s.saved.rxSniff * Config.sniffOffUnit < 2 ^ 39) :
    sniffSwitch s = .next { s with
      sniffOn := false
      dl.sniff := some (s.sysTime + BitVec.ofNat 40 (sniffOffOf s.saved.rxSniff * Config.sniffOffUnit)) } := by
  rw [sniffSwitch, if_pos hn, interval_of_lt h]

theorem sniffSwitch_off_of_ge (hn : s.sniffOn = true) (h : 2 ^ 39 ≤ sniffOffOf s.saved.rxSniff * Config.sniffOffUnit) :
    sniffSwitch s = .refused .intervalTooLong := by
  rw [sniffSwitch, if_pos hn, interval_of_ge h]

theorem sniffSwitch_on_of_lt (hn : s.sniffOn = false)
    (h : (sniffOnOf s.saved.rxSniff + 1) * Config.pacDtu (cfgOf s) < 2 ^ 39) :
    sniffSwitch s = .next { s with
      sniffOn := true
      dl.sniff := some (s.sysTime + BitVec.ofNat 40 ((sniffOnOf s.saved.rxSniff + 1) * Config.pacDtu (cfgOf s))) } := by
  rw [sniffSwitch, if_neg (ne_true_of_eq_false hn), interval_of_lt h]

theorem sniffSwitch_on_of_ge (hn : s.sniffOn = false)
    (h : 2 ^ 39 ≤ (sniffOnOf s.saved.rxSniff + 1) * Config.pacDtu (cfgOf s)) : sniffSwitch s = .refused .intervalTooLong := by
  rw [sniffSwitch, if_neg (ne_true_of_eq_false hn), interval_of_ge h]

/-! ### Timeouts (rules R173, R177) -/

theorem setEventIf_eq (c : Bool) (e : Event) (s : State) :
    setEventIf c e s = { s with sysStatus := s.sysStatus ||| if c then eventMask e else 0 } := by
  cases c with
  | false => exact congrArg (fun v => { s with sysStatus := v }) BitVec.or_zero.symm
  | true => rfl

/-- The timeouts that are due set their bits, and the attempt ends in `IDLE_PLL` (rules R173, R177). -/
theorem rxTimeout_eq {f q d : Bool} (hf : f = dueAt s.dl.fwto s) (hq : q = (s.locus == .rx .hunt && dueAt s.dl.pre s))
    (hd : d = (s.locus == .rx .sfdWait && dueAt s.dl.sfd s)) :
    rxTimeout s = { stopped s with
      sysStatus := s.sysStatus ||| (if f then 0x00000400 else 0) ||| (if q then 0x00000800 else 0) |||
        (if d then 0x00001000 else 0)
      locus := .idlePll } := by
  subst hf hq hd
  rw [rxTimeout, setEventIf_eq, setEventIf_eq, setEventIf_eq]
  rfl

end Sys2Proof.Machine
end

section
/-! SUPPORT. The buffer sets' operations field by field, whichever set they are about (rules R41, R180, R182). -/

namespace Sys2Proof.Machine

theorem setBuf_eq (n : Bool) (b : BufSet) (s : State) :
    setBuf n b s = { s with buf0 := if n then s.buf0 else b, buf1 := if n then b else s.buf1 } := by
  cases n <;> rfl

theorem setStale_true (n : Bool) (s : State) :
    setStale n true s = { s with stale0 := s.stale0 || !n, stale1 := s.stale1 || n } := by
  cases n <;> simp [setStale]

theorem setStale_false (n : Bool) (s : State) :
    setStale n false s = { s with stale0 := s.stale0 && n, stale1 := s.stale1 && !n } := by
  cases n <;> simp [setStale]

theorem DbStatus.setFull_true (n : Bool) (d : DbStatus) :
    d.setFull n true = { d with full0 := d.full0 || !n, full1 := d.full1 || n } := by
  cases n <;> simp [DbStatus.setFull]

theorem DbStatus.setFull_false (n : Bool) (d : DbStatus) :
    d.setFull n false = { d with full0 := d.full0 && n, full1 := d.full1 && !n } := by
  cases n <;> simp [DbStatus.setFull]

/-- The three events of a received frame together (rules R170, R182, R191). -/
theorem or_frameEvents (v : BitVec 32) :
    v ||| eventMask .rxfr ||| eventMask .rxfcg ||| eventMask .ciadone = v ||| 0x000040C0 := by
  rw [BitVec.or_assoc, BitVec.or_assoc]
  rfl

theorem announceFrame_eq (s : State) : announceFrame s = { s with sysStatus := s.sysStatus ||| 0x000040C0 } := by
  rw [← or_frameEvents]
  rfl

end Sys2Proof.Machine
end

section
/-! SUPPORT. The ends of a frame: a receive error, and a good frame with what it writes (rules R132, R169 to R171, R174 to R176, R180,
R191). -/

namespace Sys2Proof.Machine

variable {s : State} {len : BitVec 10} {rng : Bool} {m : Meas}

/-! ### Receive errors (rules R169 to R171, R175, R176) -/

/-- An admitted receive error sets its bits and ends the attempt (rules R169 to R171). -/
theorem airStep_of_airErrorBits {e : AirEvent} {v : BitVec 32} (he : airErrorBits e = some v) (ha : airAdmitted e s = true) :
    airStep e s = rxError { s with sysStatus := s.sysStatus ||| v } := by
  cases e with
  | preambleDetect | sfdDetect => cases he
  | phrResult ok =>
    cases ok with
    | true => cases he
    | false =>
      cases he
      simp only [airAdmitted, Bool.and_eq_true, beq_iff_eq, Bool.not_eq_true'] at ha
      obtain ⟨hl, hp⟩ := ha
      simp only [airStep, hl, hp, Bool.false_eq_true, if_false]
      rfl
  | frameEnd kind len rng m =>
    simp only [airAdmitted, Bool.and_eq_true, beq_iff_eq] at ha
    obtain ⟨hl, hp⟩ := ha
    cases kind with
    | good => cases he
    | crcErr =>
      cases he
      simp only [airStep, hl, hp, if_true, frameEnd, setEvent, BitVec.or_assoc]
      rfl
    | rsErr =>
      cases he
      simp only [airStep, hl, hp, if_true]
      rfl
  | syncLoss =>
    cases he
    simp only [airAdmitted, Bool.or_eq_true, beq_iff_eq] at ha
    rcases ha with hl | hl <;> simp only [airStep, hl] <;> rfl

theorem rxError_of_idle (h : rxAutoReenOf s.saved.sysCfg = false) : rxError s = .next { stopped s with locus := .idlePll } :=
  if_neg (ne_true_of_eq_false h)

theorem rxError_of_huntFits (h : rxAutoReenOf s.saved.sysCfg = true) (hf : huntFits s) :
    rxError s = .next (hunting (stopped s)) :=
  (if_pos h).trans (enterHunt_of_huntFits (s := stopped s) hf)

theorem rxError_of_not_huntFits (h : rxAutoReenOf s.saved.sysCfg = true) (hf : ¬huntFits s) :
    rxError s = .refused .intervalTooLong :=
  (if_pos h).trans (enterHunt_of_not_huntFits (s := stopped s) hf)

/-! ### What a good frame writes (rules R174, R180, R191) -/

/-- `RX_FINFO` as a number: the length, and the ranging bit above it (rule R39). -/
theorem toNat_rxFinfo (len : BitVec 10) (rng : Bool) (m : Meas) (s : State) :
    (ciaBuf len rng m s).rxFinfo.toNat = len.toNat + if rng then 1024 else 0 := by
  have hlen : len.toNat < 2 ^ 10 := len.isLt
  have hor : len.toNat ||| 1024 = len.toNat + 1024 := by
    rw [Nat.or_comm, Nat.add_comm]
    exact (Nat.two_pow_add_eq_or_of_lt hlen 1).symm
  have hmod : len.toNat % 4294967296 = len.toNat := Nat.mod_eq_of_lt (by omega)
  cases rng <;> simp [ciaBuf, hmod, hor]

/-- A fill, field by field (rule R180). -/
theorem fillBuffer_fields (n : Bool) (s : State) :
    fillBuffer n s = { s with
      stale0 := s.stale0 && n
      stale1 := s.stale1 && !n
      db := if dbEnOf s.saved.sysCfg then
          { hwBuf := !n, hostBuf := s.db.hostBuf, full0 := s.db.full0 || !n, full1 := s.db.full1 || n }
        else s.db } := by
  simp only [fillBuffer, setStale_false, DbStatus.setFull_true]
  split <;> rfl

/-- What a good frame leaves before the attempt's end is decided (rules R170, R174). -/
def frameReceived (len : BitVec 10) (rng : Bool) (m : Meas) (s : State) : State :=
  frameStored len rng m (setEvent .rxfcg (setEvent .rxfr s))

/-- A good frame writes one buffer set, the CIR memory and the last stamp; in double-buffer mode the set is full and the hardware
goes on to the other one (rules R174, R180, R191). -/
theorem frameReceived_fields (len : BitVec 10) (rng : Bool) (m : Meas) (s : State) :
    frameReceived len rng m s = { stopped s with
      sysStatus := s.sysStatus ||| 0x000040C0
      cir := cirCells m
      rxStampLast := (ciaBuf len rng m s).stampIp
      buf0 := if fillIndex s then s.buf0 else ciaBuf len rng m s
      buf1 := if fillIndex s then ciaBuf len rng m s else s.buf1
      stale0 := s.stale0 && fillIndex s
      stale1 := s.stale1 && !fillIndex s
      db := if dbEnOf s.saved.sysCfg then
          { hwBuf := !fillIndex s, hostBuf := s.db.hostBuf, full0 := s.db.full0 || !fillIndex s
            full1 := s.db.full1 || fillIndex s }
        else s.db } := by
  rw [frameReceived, frameStored, fillBuffer_fields, ciaWrite, setBuf_eq, ← or_frameEvents]
  rfl

/-! ### What follows a good frame (rules R132, R174, R176, R191) -/

/-- A frame with the reserved `PDOA_MODE` is refused (rule R191, U9). -/
theorem rxGood_of_reserved (h : pdoaModeOf s.saved.sysCfg = 2) : rxGood len rng m s = .refused .pdoaModeReserved :=
  if_pos h

/-- After the frame comes automatic sleep, the receiver again, or idle (rules R132, R174, R176). -/
theorem rxGood_of_defined (h : pdoaModeOf s.saved.sysCfg ≠ 2) :
    rxGood len rng m (setEvent .rxfcg (setEvent .rxfr s)) =
      if arxSlpOf s.aonCfg && sleepEnOf s.aonCfg then .next (sleepEntry (deepOf s.aonCfg) (frameReceived len rng m s))
      else if dbEnOf s.saved.sysCfg && rxAutoReenOf s.saved.sysCfg then rxEnableNow (frameReceived len rng m s)
      else .next { frameReceived len rng m s with locus := .idlePll } := by
  have ha : (frameReceived len rng m s).aonCfg = s.aonCfg := by rw [frameReceived_fields]; rfl
  have hs : (frameReceived len rng m s).saved = s.saved := by rw [frameReceived_fields]; rfl
  rw [← ha, ← hs]
  exact if_neg h

/-- The end of a good frame, in the phase that admits it (rule R170). -/
theorem airStep_frameEnd_good (hl : s.locus = .rx .data) (hp : s.phrOk = true) :
    airStep (.frameEnd .good len rng m) s = rxGood len rng m (setEvent .rxfcg (setEvent .rxfr s)) := by
  simp only [airStep, hl, hp, if_true, frameEnd]

end Sys2Proof.Machine
end

section
/-! SUPPORT. `DBFREE`, and what a free of the host's buffer set writes (rules R181, R182). -/

namespace Sys2Proof.Machine

variable {s : State}

/-- A free, field by field: the host's set stale and empty, the pointer moved on, a waiting frame announced (rule R182). -/
theorem freeBuffer_fields (s : State) :
    freeBuffer s = { s with
      sysStatus := s.sysStatus ||| (if s.db.full (!s.db.hostBuf) then 0x000040C0 else 0)
      db := { s.db with hostBuf := !s.db.hostBuf, full0 := s.db.full0 && s.db.hostBuf, full1 := s.db.full1 && !s.db.hostBuf }
      stale0 := s.stale0 || !s.db.hostBuf
      stale1 := s.stale1 || s.db.hostBuf } := by
  simp only [freeBuffer, setStale_true, DbStatus.setFull_false]
  split
  · exact announceFrame_eq _
  · simp only [BitVec.ofNat_eq_ofNat, BitVec.or_zero]

/-- An admitted `DBFREE` runs its body (rule R181). -/
theorem exec_dbfree_admitted (hr : CommandReady s) (ha : admitted .dbfree s = true) :
    exec .dbfree s =
      if s.db.full s.db.hostBuf then .next (setResult .success (freeBuffer (commandStart s)))
      else .next (raiseCmdErr (commandStart s)) := by
  obtain ⟨hp, hc, hu⟩ := hr
  simp only [admitted, Bool.and_eq_true, Bool.not_eq_true'] at ha
  obtain ⟨-, ⟨hb, has⟩, he⟩ := ha
  have hm : (!asleep (commandStart s)) = true := congrArg (!·) has
  have hx : exec .dbfree s = execDbfree s := rfl
  rw [hx, execDbfree, command_runs hp hc (.inl hu) rfl (.inl hb) hm he]
  rfl

/-- Success reported on a free after the command's start (rules R85, R181, R182). -/
theorem setResult_freeBuffer_commandStart (s : State) :
    setResult .success (freeBuffer (commandStart s)) = { freeBuffer s with
      response := []
      cmdResult := 0x00
      sysStatus := s.sysStatus ||| 0x00100000 ||| (if s.db.full (!s.db.hostBuf) then 0x000040C0 else 0) } := by
  have hst (v x : BitVec 32) : (v &&& ~~~eventMask .cmddone) ||| x ||| eventMask .cmddone = v ||| 0x00100000 ||| x := by
    rw [BitVec.or_assoc, BitVec.or_comm x, ← BitVec.or_assoc, or_of_and_not]
    rfl
  rw [freeBuffer_fields, freeBuffer_fields s]
  simp only [setResult, setEvent, clearEvent_sysStatus, hst]
  rfl

/-- The host acknowledges a frame by writing 1 to `RXFCG`: the bit goes, and in auto mode a full set is freed (rules R105, R182). -/
theorem exec_acknowledge (hp : PortReady s) (hc : crcGood s = true) (h7 : s.sysStatus.getLsbD 7 = true) :
    exec (.wr32 0x03 0 4 0x00000080) s = .next
      (if dbEnOf s.saved.sysCfg = true ∧ dbAutoOf s.saved.sysCfg = true ∧ s.db.full s.db.hostBuf = true
        then freeBuffer { s with response := [], sysStatus := s.sysStatus &&& 0xFFFFFF7F }
        else { s with response := [], sysStatus := s.sysStatus &&& 0xFFFFFF7F }) := by
  have hstore : Stores (.wr32 0x03 0 4 0x00000080) s .sysStatus 0 4 ((0x00000080#32).setWidth 160) :=
    ⟨rfl, by decide, rfl, rfl, rfl⟩
  have hw : w1cStatus s.sysStatus 0 ((0x00000080#32).setWidth 160) = s.sysStatus &&& 0xFFFFFF7F := rfl
  have h7' : (s.sysStatus &&& 0xFFFFFF7F).getLsbD 7 = false := by simp
  have hwrite : writeReg .sysStatus 0 4 ((0x00000080#32).setWidth 160) { s with response := [] } =
      writeStatus 0 ((0x00000080#32).setWidth 160) { s with response := [] } := rfl
  rw [exec_of_stores_not_rw hp hc hstore (by decide) (by decide) nofun, hwrite, writeStatus_eq]
  simp only [hw, h7, h7', true_and]

end Sys2Proof.Machine
end

section
/-! The obligations of spec/43_rx_sequencer.md: immediate receptions, the receiver's deadlines, receive errors, good frames, and
`DBFREE`. -/

namespace Sys2Proof.Proofs.RxSequencer

open Sys2Proof.Machine

/-- Settles O34: the command's body, and the auto-mode free behind an acknowledging write, are the same free. -/
theorem dbfreeCompletes : Obligations.dbfree_completes := by
  refine ⟨fun s hr ha => ⟨fun hf => ?_, fun hf => ?_⟩, fun s hp hc h7 =>
    ⟨_, exec_acknowledge hp hc h7, fun he hauto hf => ?_, fun h => if_neg ?_⟩⟩
  · rw [exec_dbfree_admitted hr ha, if_pos hf, setResult_freeBuffer_commandStart, freeBuffer_fields]
  · rw [exec_dbfree_admitted hr ha, if_neg (ne_true_of_eq_false hf), raiseCmdErr_commandStart]
  · rw [if_pos ⟨he, hauto, hf⟩, freeBuffer_fields]
  · rintro ⟨he, hauto, hf⟩
    simp [he, hauto, hf] at h

/-- Settles O41: overrun, or the receiver turned on where the intervals fit. -/
theorem rxImmediate : Obligations.rx_immediate := by
  intro s k hr ha
  rw [exec_rx_imm_admitted hr ha]
  refine ⟨fun ho => ?_, fun ho hf => ?_, fun ho hf => ?_⟩
  · rw [startRxNow_overrun (s := commandStart s) ho]
    exact congrArg Host.Outcome.next
      (setResult_error_event (e := .rxovrr) (by decide) { s with response := [], locus := .idlePll })
  · rw [startRxNow_hunt (s := commandStart s) ho, enterHunt_of_huntFits (s := commandStart s) hf, andThen,
      setResult_hunting, setResult_after_clear]
    rfl
  · rw [startRxNow_hunt (s := commandStart s) ho, enterHunt_of_not_huntFits (s := commandStart s) hf]
    rfl

/-- Settles O43: each deadline of the receiver with the transition it makes due. -/
theorem rxTimedSteps : Obligations.rx_timed_steps := by
  intro s hr
  refine ⟨fun hl hd hf => ?_, fun hl hd hf => ?_, fun hl hd hf hp hn h => ?_, fun hl hd hf hp hn h => ?_,
    fun hl hd hf hp hn h => ?_, fun hl hd hf hp hn h => ?_, fun p f q d hl hp hf hq hd h => ?_⟩
  · rw [step_startRx hr hl hd, enterHunt_of_huntFits (s := { s with dl.start := none }) hf]
  · rw [step_startRx hr hl hd, enterHunt_of_not_huntFits (s := { s with dl.start := none }) hf]
  · rw [step_sniffSwitch hr hl hd hf hp, sniffSwitch_off_of_lt hn h]
  · rw [step_sniffSwitch hr hl hd hf hp, sniffSwitch_on_of_lt hn h]
  · rw [step_sniffSwitch hr hl hd hf hp, sniffSwitch_off_of_ge hn h]
  · rw [step_sniffSwitch hr hl hd hf hp, sniffSwitch_on_of_ge hn h]
  · have hf : f = dueAt s.dl.fwto s := by
      rw [Bool.eq_iff_iff, hf, dueAt_iff]
    have hq : q = (s.locus == .rx .hunt && dueAt s.dl.pre s) := by
      rw [Bool.eq_iff_iff, hq, Bool.and_eq_true, beq_iff_eq, dueAt_iff, hl, Locus.rx.injEq]
    have hd : d = (s.locus == .rx .sfdWait && dueAt s.dl.sfd s) := by
      rw [Bool.eq_iff_iff, hd, Bool.and_eq_true, beq_iff_eq, dueAt_iff, hl, Locus.rx.injEq]
    have ht : timeoutDue s = true := by
      rw [timeoutDue_eq hl hp, ← hf, ← hq, ← hd, Bool.or_eq_true, Bool.or_eq_true, or_assoc]
      exact h
    rw [step_rxTimeout hr hl hp ht, rxTimeout_eq hf hq hd]

/-- Settles O45: the error's bits, then the end of the attempt by `RX_AUTO_REEN`. -/
theorem airErrors : Obligations.air_errors := by
  intro s e v he ha
  rw [airStep_of_airErrorBits he ha]
  exact ⟨fun hr => rxError_of_idle hr, fun hr hf => rxError_of_huntFits hr hf, fun hr hf => rxError_of_not_huntFits hr hf⟩

/-- Settles O47: the buffer set is the one `CiaWrite` writes, and the end is decided by the sleep bits, the
mode, then the overrun. -/
theorem goodFrame : Obligations.good_frame := by
  intro s g len rng n m b hl hp
  rw [airStep_frameEnd_good hl hp]
  refine ⟨fun h2 => rxGood_of_reserved h2, fun h2 hn hfinfo hraw hip hsts1 hsts2 hpip hpsts1 hpsts2 htdoa hpdoa hqual hsts
    hdip hdsts1 hdsts2 hdgc hg => ?_⟩
  have hb : b = ciaBuf len rng m s := by
    have hfinfo : b.rxFinfo = (ciaBuf len rng m s).rxFinfo :=
      BitVec.eq_of_toNat_eq (hfinfo.trans (toNat_rxFinfo len rng m s).symm)
    cases b
    rw [ciaBuf, BufSet.mk.injEq]
    exact ⟨hfinfo, hraw, hip, hsts1, hsts2, hpip, hpsts1, hpsts2, htdoa, hpdoa, hqual, hsts, hdip, hdsts1, hdsts2, hdgc⟩
  have hstored : frameReceived len rng m s = g := by
    subst hn hb
    exact (frameReceived_fields len rng m s).trans hg.symm
  have hover (he : dbEnOf s.saved.sysCfg = true) : overrun g = g.db.full (!n) := by
    rw [hg]
    simp [overrun, stopped, he]
  have hfits (hf : huntFits s) : huntFits g := hg ▸ hf
  have hfits' (hf : ¬huntFits s) : ¬huntFits g := hg ▸ hf
  rw [rxGood_of_defined h2, hstored]
  refine ⟨fun ha he => ?_, fun hs => ?_⟩
  · rw [if_pos (Bool.and_eq_true_iff.2 ⟨ha, he⟩)]
    rfl
  · rw [if_neg (ne_true_of_eq_false (Bool.and_eq_false_iff.2 hs))]
    refine ⟨fun h => ?_, fun he hr ho => ?_, fun he hr ho hf => ?_, fun he hr ho hf => ?_⟩
    · rw [if_neg (ne_true_of_eq_false (Bool.and_eq_false_iff.2 h))]
    · rw [if_pos (Bool.and_eq_true_iff.2 ⟨he, hr⟩), rxEnableNow_of_overrun ((hover he).trans ho)]
      rfl
    · rw [if_pos (Bool.and_eq_true_iff.2 ⟨he, hr⟩), rxEnableNow_of_huntFits ((hover he).trans ho) (hfits hf)]
    · rw [if_pos (Bool.and_eq_true_iff.2 ⟨he, hr⟩), rxEnableNow_of_not_huntFits ((hover he).trans ho) (hfits' hf)]

end Sys2Proof.Proofs.RxSequencer
end

section
/-! SUPPORT. Agent `Cal`, step by step: what each branch leaves, and a run of draws that only count (rules R221 to R231). -/

namespace Sys2Proof.Machine

variable {s : State} {d : CalDraw} {adc : Bool}

/-! ### Runs of draws -/

theorem calRun_append (ds es : List CalDraw) (s : State) :
    calRun (ds ++ es) s = andThen (calRun ds s) (calRun es) := by
  induction ds generalizing s with
  | nil => rfl
  | cons d ds ih =>
    rw [List.cons_append, calRun, calRun]
    cases calStep d s with
    | next u => exact ih u
    | fault e | refused e => rfl

theorem calRun_singleton (d : CalDraw) (s : State) : calRun [d] s = calStep d s := by
  rw [calRun]
  cases calStep d s <;> rfl

/-- The last draw of a run steps from where the draws before it lead. -/
theorem calRun_concat {ds : List CalDraw} {u : State} (h : calRun ds s = .next u) (d : CalDraw) :
    calRun (ds ++ [d]) s = calStep d u := by
  rw [calRun_append, h]
  exact calRun_singleton d u

/-- `f` is a way through the calibration machine on which a draw in `bad` goes one place on and changes nothing else, as far as
place `n`. -/
def CountsTo (bad : CalDraw → Prop) (f : Nat → CalFsm) (n : Nat) : Prop :=
  ∀ (d : CalDraw) (u : State) (k : Nat), bad d → k < n → u.calfsm = f k → calStep d u = .next { u with calfsm := f (k + 1) }

/-- As many bad draws as the way allows only count. -/
theorem CountsTo.calRun_eq {bad : CalDraw → Prop} {f : Nat → CalFsm} {n : Nat} (hf : CountsTo bad f n) (hs : s.calfsm = f 0)
    {ds : List CalDraw} (hds : ∀ d ∈ ds, bad d) (hn : ds.length ≤ n) :
    calRun ds s = .next { s with calfsm := f ds.length } := by
  induction ds using List.reverseRecOn with
  | nil =>
    rw [List.length_nil, ← hs]
    rfl
  | append_singleton ds d ih =>
    rw [List.length_append, List.length_singleton] at hn ⊢
    have hrun := ih (fun e he => hds e (List.mem_append_left _ he)) (by omega)
    rw [calRun_concat hrun]
    exact hf d _ _ (hds d (by simp)) (by omega) rfl

/-- One bad draw more than the way allows steps from the way's last place. -/
theorem CountsTo.calRun_exhausted {bad : CalDraw → Prop} {f : Nat → CalFsm} {n : Nat} (hf : CountsTo bad f n)
    (hs : s.calfsm = f 0) {ds : List CalDraw} (hds : ∀ d ∈ ds, bad d) (hn : ds.length = n + 1) :
    ∃ d, bad d ∧ calRun ds s = calStep d { s with calfsm := f n } := by
  obtain rfl | ⟨init, d, rfl⟩ := List.eq_nil_or_concat' ds
  · cases hn
  · have hn : init.length = n := by simpa using hn
    have hrun := hf.calRun_eq hs (fun e he => hds e (List.mem_append_left _ he)) hn.le
    exact ⟨d, hds d (by simp), by rw [calRun_concat hrun, hn]⟩

/-! ### The PLL (rules R222 to R225) -/

/-- The place of the PLL calibration after `k` polls (rule R222). -/
def pollAt (k : Nat) : CalFsm := .pll (k / 50) (k % 50)

/-- A lock is reported by `CPLOCK` and `SUCCESS` (rule R223). -/
theorem calStep_pll_lock {l p : Nat} (hc : s.calfsm = .pll l p) (hd : d.lock = true) :
    calStep d s = .next { s with
      calfsm := .none, locus := .idlePll, sysStatus := s.sysStatus ||| 0x00100001, cmdResult := 0x00, cal.pllLocked := true
      saved.pllCc := putCoarseCode (chanOf s.saved.chanCtrl) d.cc s.saved.pllCc } := by
  have hstatus : s.sysStatus ||| eventMask .cplock ||| eventMask .cmddone = s.sysStatus ||| 0x00100001 := BitVec.or_assoc ..
  simp only [calStep, hc, hd, if_true, pllLock, setResult, setEvent, hstatus, resultByte]

theorem calStep_pll_miss {l p : Nat} (hc : s.calfsm = .pll l p) (hd : d.lock = false) :
    calStep d s = .next (pllMiss l p s) := by
  simp only [calStep, hc, hd, Bool.false_eq_true, if_false]

/-- Within the budget of 100 polls a miss is counted, the poll before the cycle (rule R224). -/
theorem pllMiss_pollAt {k : Nat} (hk : k < 99) (s : State) :
    pllMiss (k / 50) (k % 50) s = { s with calfsm := pollAt (k + 1) } := by
  unfold pllMiss pollAt Config.maxRetriesForPll Config.maxPllCalLoop
  by_cases hp : k % 50 + 1 < 50
  · obtain ⟨hdiv, hmod⟩ : (k + 1) / 50 = k / 50 ∧ (k + 1) % 50 = k % 50 + 1 := by omega
    rw [if_pos hp, hdiv, hmod]
  · obtain ⟨hl, hdiv, hmod⟩ : k / 50 + 1 < 2 ∧ (k + 1) / 50 = k / 50 + 1 ∧ (k + 1) % 50 = 0 := by omega
    rw [if_neg hp, if_pos hl, hdiv, hmod]

/-- The last poll's miss is the failure, which leaves the operating state alone (rules R224, R225). -/
theorem pllMiss_last (s : State) :
    pllMiss 1 49 s = { s with
      calfsm := .none, sysStatus := s.sysStatus ||| 0x00100000, cmdResult := 0xFE
      cal := { s.cal with pllLocked := false, cfgUndef := true } } := rfl

theorem countsTo_pollAt : CountsTo (·.lock = false) pollAt 99 := fun _ u _ hd hk hc => by
  rw [calStep_pll_miss hc hd, pllMiss_pollAt hk u]

/-! ### The receiver (rules R227 to R231) -/

/-- A failure ends the receive calibration with its code and marks the configuration undefined (rule R230). -/
theorem calFail_eq (code : ResultCode) (s : State) :
    calFail code s = { s with
      calfsm := .none, sysStatus := s.sysStatus ||| 0x00100000, cmdResult := resultByte code
      cal := { s.cal with pgfDone := false, adcDone := false, cfgUndef := true } } := rfl

theorem calDone_eq (s : State) :
    calDone s = { s with calfsm := .none, sysStatus := s.sysStatus ||| 0x00100000, cmdResult := 0x00 } := rfl

theorem calStep_pgf_pass {n : Nat} (hc : s.calfsm = .pgf n adc) (hd : d.ok = true) :
    calStep d s = .next { s with calfsm := .res adc } := by
  simp only [calStep, hc, pgfAttempt, hd, if_true]

/-- A failed attempt is counted while one is left (rule R227). -/
theorem calStep_pgf_retry {n : Nat} (hc : s.calfsm = .pgf n adc) (hd : d.ok = false) (hn : n < 2) :
    calStep d s = .next { s with calfsm := .pgf (n + 1) adc } := by
  have hn : n + 1 < Config.maxRetriesForPgf := Nat.succ_lt_succ hn
  simp only [calStep, hc, pgfAttempt, hd, hn, Bool.false_eq_true, if_false, if_true]

theorem calStep_pgf_last (hc : s.calfsm = .pgf 2 adc) (hd : d.ok = false) :
    calStep d s = .next (calFail .errRxCalPgf s) := by
  have hn : ¬2 + 1 < Config.maxRetriesForPgf := Nat.lt_irrefl 3
  simp only [calStep, hc, pgfAttempt, hd, hn, Bool.false_eq_true, if_false]

theorem countsTo_pgf (adc : Bool) : CountsTo (·.ok = false) (.pgf · adc) 2 :=
  fun _ _ _ hd hk hc => calStep_pgf_retry hc hd hk

theorem calStep_res (hc : s.calfsm = .res adc) : calStep d s = .next (resCheck d.resi d.resq adc s) := by
  simp only [calStep, hc]

theorem calStep_adc (hc : s.calfsm = .adc) : calStep d s = .next (adcCal d.ok d.thr s) := by
  simp only [calStep, hc]

/-- At most two failed attempts, a good one and a resistor draw end in the resistor check (rules R227, R228). -/
theorem calRun_pgf_res {ds : List CalDraw} (hs : s.calfsm = .pgf 0 adc) (hds : ∀ d ∈ ds, d.ok = false) (hn : ds.length ≤ 2)
    (hd : d.ok = true) (r : CalDraw) :
    calRun (ds ++ [d, r]) s = .next (resCheck r.resi r.resq adc { s with calfsm := .res adc }) := by
  have hattempts : calRun ds s = .next { s with calfsm := .pgf ds.length adc } := (countsTo_pgf adc).calRun_eq hs hds hn
  have hpass : calRun (ds ++ [d]) s = .next { s with calfsm := .res adc } :=
    (calRun_concat hattempts d).trans (calStep_pgf_pass rfl hd)
  rw [List.append_cons, calRun_concat hpass]
  exact calStep_res rfl

variable {i q : BitVec 29}

/-- Both resistor results are stored, whatever they are; the I result is judged first (rule R228). -/
theorem resCheck_invalid_i (hi : i = Config.rxCalInvalid) (s : State) :
    resCheck i q adc s = calFail .errRxCalResi { s with rxCalResi := i.setWidth 32, rxCalResq := q.setWidth 32 } := by
  simp only [resCheck, if_pos hi]

theorem resCheck_invalid_q (hi : i ≠ Config.rxCalInvalid) (hq : q = Config.rxCalInvalid) (s : State) :
    resCheck i q adc s = calFail .errRxCalResq { s with rxCalResi := i.setWidth 32, rxCalResq := q.setWidth 32 } := by
  simp only [resCheck, if_neg hi, if_pos hq]

/-- With both results valid the calibration goes on to the ADC or is done (rules R228, R231). -/
theorem resCheck_valid (hi : i ≠ Config.rxCalInvalid) (hq : q ≠ Config.rxCalInvalid) (s : State) :
    resCheck i q adc s = { s with
      calfsm := if adc then .adc else .none
      sysStatus := s.sysStatus ||| (if adc then 0 else 0x00100000)
      cmdResult := if adc then s.cmdResult else 0x00
      rxCalResi := i.setWidth 32, rxCalResq := q.setWidth 32, cal.pgfDone := true } := by
  have hstatus : s.sysStatus ||| 0 = s.sysStatus := BitVec.or_zero
  simp only [resCheck, if_neg hi, if_neg hq]
  cases adc with
  | true => simp only [if_true, hstatus]
  | false => rfl

theorem adcCal_true (thr : BitVec 32) (s : State) :
    adcCal true thr s = calDone { s with adcThresh := thr, cal.adcDone := true } := rfl

theorem adcCal_false (thr : BitVec 32) (s : State) : adcCal false thr s = calFail .errRxAdcCal s := rfl

end Sys2Proof.Machine
end

section
/-! SUPPORT. `TXPWR`: the index applied, and what the command writes (rule R242). -/

namespace Sys2Proof.Machine

variable {s : State} {idx : Byte}

/-- The index applied is the lesser of the requested one and the silicon's maximum (rule R242). -/
theorem toNat_txpwrEffective (idx : Byte) (s : State) :
    (txpwrEffective idx s).toNat = min idx.toNat (Config.txpwrMaxIdx Config.chipId (chanOf s.saved.chanCtrl)).toNat := by
  simp only [txpwrEffective]
  split
  · next h => rw [Nat.min_eq_left h]
  · next h => rw [Nat.min_eq_right (by omega)]

theorem admitted_txpwr_eq (idx : Byte) (s : State) : admitted (.txpwr idx) s = (!busy s && idling s) := rfl

theorem idling_iff : idling s = true ↔ s.locus = .init ∨ s.locus = .idleRc ∨ s.locus = .idlePll := by
  unfold idling
  cases s.locus <;> simp

theorem exec_txpwr (idx : Byte) (s : State) : exec (.txpwr idx) s = execTxpwr idx s := rfl

/-- An admitted `TXPWR` reports success and writes the table's entry and the index applied (rule R242). -/
theorem exec_txpwr_admitted (hr : CommandReady s) (ha : admitted (.txpwr idx) s = true) :
    exec (.txpwr idx) s = .next { s with
      response := [], sysStatus := s.sysStatus ||| 0x00100000, cmdResult := 0x00
      saved.txPower := Config.txpwrLut Config.chipId (chanOf s.saved.chanCtrl) (txpwrEffective idx s)
      txpwrIdx := txpwrEffective idx s } := by
  obtain ⟨hp, hc, hu⟩ := hr
  obtain ⟨hb, hi⟩ : busy s = false ∧ idling s = true := by simpa [admitted_txpwr_eq] using ha
  rw [exec_txpwr, execTxpwr, command_runs hp hc (.inl hu) rfl (.inl hb) hi rfl]
  exact congrArg Host.Outcome.next (setResult_after_clear .success { applyTxpwr idx s with response := [] })

end Sys2Proof.Machine
end

section
/-! The obligations of spec/45_calibration.md: the budget of the PLL, the outcomes of the receive calibration, and `TXPWR`. -/

namespace Sys2Proof.Proofs.Calibration

open Sys2Proof.Machine

/-- Settles O33: the command's body applies the clamped index. -/
theorem txpwrCompletes : Obligations.txpwr_completes := by
  refine ⟨fun s idx hr ha => ⟨txpwrEffective idx s, toNat_txpwrEffective idx s, exec_txpwr_admitted hr ha⟩, fun s idx => ?_⟩
  rw [admitted_txpwr_eq, Bool.and_eq_true, Bool.not_eq_true', idling_iff]

/-- Settles O50: misses only count up to the 99th, and the draw after them locks the PLL or is the last miss. -/
theorem pllBudget : Obligations.pll_budget := by
  intro s ds hs hds
  have hcount (hn : ds.length < 100) : calRun ds s = .next { s with calfsm := pollAt ds.length } :=
    countsTo_pollAt.calRun_eq hs hds (Nat.le_of_lt_succ hn)
  refine ⟨hcount, fun hn d hd => ?_, fun hn => ?_⟩
  · rw [calRun_concat (hcount hn), calStep_pll_lock rfl hd, putCoarseCode]
  · obtain ⟨d, hd, hrun⟩ := countsTo_pollAt.calRun_exhausted hs hds hn
    rw [hrun, calStep_pll_miss rfl hd, pllMiss_last]

/-- Settles O51: failed PGF attempts only count up to the second, the resistor check follows a good one, and each end is `CalFail`
or `CalDone`. -/
theorem rxCalibrationOutcomes : Obligations.rx_calibration_outcomes := by
  refine ⟨fun s adc ds hs hds => ⟨fun hn => ?_, fun d r hn hd => ?_⟩, fun s d hs => ?_⟩
  · obtain ⟨d, hd, hrun⟩ := (countsTo_pgf adc).calRun_exhausted hs hds hn
    rw [hrun, calStep_pgf_last rfl hd, calFail_eq, resultByte]
  · rw [calRun_pgf_res hs hds hn hd]
    refine ⟨fun hi => ?_, fun hi hq => ?_, fun hi hq => ?_⟩
    · rw [resCheck_invalid_i hi, calFail_eq, resultByte]
    · rw [resCheck_invalid_q hi hq, calFail_eq, resultByte]
    · rw [resCheck_valid hi hq]
  · rw [calStep_adc hs]
    refine ⟨fun hd => ?_, fun hd => ?_⟩
    · rw [hd, adcCal_true, calDone_eq]
    · rw [hd, adcCal_false, calFail_eq, resultByte]

end Sys2Proof.Proofs.Calibration
end
